-- ==== Sys2Proof/Word.lean ====
section
/-! DEFINITION. The words the part's formats are written in, and the fixed-size tables its records stand in. -/

namespace Sys2Proof

/-- One data character of a supervisory message or response (R157: eight data bits). -/
abbrev Byte := BitVec 8

/-- A table of exactly `n` records, numbered from 0: the roster's slots, the channels, the stages of a portal.
Plain data: a list and the fact that it has `n` cells. -/
structure Tbl (α : Type) (n : Nat) where
  cells : List α
  size : cells.length = n
deriving DecidableEq, Repr

namespace Tbl

/-- The record at position `i`. -/
def get {α : Type} {n : Nat} (t : Tbl α n) (i : Fin n) : α :=
  t.cells[i.val]'(by rw [t.size]; exact i.isLt)

/-- The table with the record at position `i` replaced. -/
def set {α : Type} {n : Nat} (t : Tbl α n) (i : Fin n) (a : α) : Tbl α n :=
  ⟨t.cells.set i.val a, by rw [List.length_set]; exact t.size⟩

/-- The table with the record at position `i` changed by `f`. -/
def modify {α : Type} {n : Nat} (t : Tbl α n) (i : Fin n) (f : α → α) : Tbl α n :=
  t.set i (f (t.get i))

/-- Each record changed by `f`. -/
def map {α β : Type} {n : Nat} (t : Tbl α n) (f : α → β) : Tbl β n :=
  ⟨t.cells.map f, by rw [List.length_map]; exact t.size⟩

/-- Each record changed by `f`, which is told its position. -/
def mapIdx {α β : Type} {n : Nat} (t : Tbl α n) (f : Fin n → α → β) : Tbl β n :=
  ⟨List.zipWith f (List.finRange n) t.cells, by simp [t.size]⟩

/-- The table whose every record is `a`. -/
def fill {α : Type} (n : Nat) (a : α) : Tbl α n :=
  ⟨List.replicate n a, List.length_replicate⟩

/-- The table whose record at position `i` is `f i`. -/
def tabulate {α : Type} {n : Nat} (f : Fin n → α) : Tbl α n :=
  ⟨(List.finRange n).map f, by simp⟩

/-- The records with their positions, in increasing order. -/
def indexed {α : Type} {n : Nat} (t : Tbl α n) : List (Fin n × α) :=
  (List.finRange n).zip t.cells

end Tbl

end Sys2Proof
end

