-- ==== Sys2Proof/Syntax.lean ====
section
/-! DEFINITION. The commands the part takes: one constructor for each row of spec/opcode_table.json.

A link command (ENTER to RESTART in the command summary of 8.9) carries its message's parameters as the numbers
their bytes spell (R186), before any range is looked at: an absent optional field is the number with every bit of
its width set, an enumerated field its code. A position mask is a bit vector with position i at bit i. -/

namespace Sys2Proof

/-- To whom a message is addressed: the part's own station, or station 0 (R159, R168). -/
inductive Dest where
  | station
  | broadcast
deriving DecidableEq, Repr

/-- A physical level of a discrete input (R118). -/
inductive InputLevel where
  | deenergised
  | energised
deriving DecidableEq, Repr

/-- What a 14-byte entry record of WRITE_NEXT says (12.4), without the positions of the ignored class (R28).
Line, address, portal, stage and class cannot exceed their ranges in the packing. -/
structure EntryRecord where
  state : Fin 8
  line : Fin 4
  address : Fin 64
  portal : Fin 4
  stage : Fin 8
  cls : Fin 4
  q : Nat
  age : Nat
  pin : Option (Fin 1024)
deriving DecidableEq, Repr

/-- The configuration fields of R55 that SET_PORTAL carries, in its order, role omitted (12.3). -/
structure PortalFields where
  primary : Nat
  secondary : Nat
  k : Nat
  lthMin : Nat
  lthCap : Nat
  lthFallback : Nat
  w : Nat
  up : Nat
  dn : Nat
  deadBand : Nat
  fallHoldLength : Nat
  staleLimit : Nat
  holdLimit : Nat
  recoverCount : Nat
  disagreement : Nat
  uMin : Nat
  updateInterval : Nat
deriving DecidableEq, Repr

/-- A backward frame as the line unit samples it (R188, 12.5): the line's level in the first and in the second half
of each of its 17 cells, the start cell at bit 16, and whether the line was high throughout the stop. -/
structure BackwardSignal where
  firstHalf : BitVec 17
  secondHalf : BitVec 17
  stopHigh : Bool
deriving DecidableEq, Repr

/-- The commands and events of the part, one constructor per row of the table, in the table's order. -/
inductive Instr where
  | fullReset
  | enter (slot line address portal stage cls q age pin : Nat)
  | amend (slot : Nat) (present : BitVec 8) (portal stage cls q age line address : Nat)
  | suspend (slot : Nat)
  | resume (slot : Nat)
  | retire (slot : Nat)
  | pin (slot code : Nat)
  | unpin (slot : Nat)
  | locate (slot : Nat)
  | lookup (slot : Nat)
  | find (line address : Nat)
  | openWindow (first last direction : Nat)
  | writeNext (records : List EntryRecord)
  | readNext (count : Nat)
  | readMarks
  | clearMarks (mask : BitVec 32)
  | ageTickExpiry
  | setChannel (channel offset gain low high : Nat)
  | setScan (positions : List Nat) (interval : Nat)
  | readChannel (channel : Nat)
  | scanTimerExpiry
  | conversionComplete (raw : Nat)
  | setPortal (portal : Nat) (fields : PortalFields)
  | setRole (portal role : Nat)
  | setManual (portal luminance : Nat)
  | setAuto (portal : Nat)
  | readPortal (portal : Nat)
  | updateTimerExpiry (portal : Fin 4)
  | setStages (portal count : Nat) (pairs : List (Nat × Nat))
  | setCompute (mode thermal ceiling : Nat)
  | setMaintenance (count : Nat) (rows : List (Nat × Nat))
  | setCurve (cls : Nat) (points : List Nat)
  | readTables (cls : Nat)
  | inputLevelChange (input : Fin 6) (level : InputLevel)
  | debounceExpiry (input : Fin 6)
  | force (dest : Dest) (mask : BitVec 8)
  | unforce (dest : Dest) (mask : BitVec 8)
  | limit (dest : Dest) (mask : BitVec 8)
  | unlimit (dest : Dest) (mask : BitVec 8)
  | freeze (dest : Dest) (mask : BitVec 8)
  | unfreeze (dest : Dest) (mask : BitVec 8)
  | setInput (input function : Nat) (mask : BitVec 8) (sense polarity : Nat)
  | readInputs
  | forwardFrameEnd (line : Fin 4)
  | contention (line : Fin 4)
  | replyOutcome (line : Fin 4) (received : Option BackwardSignal)
  | transactionEnd (line : Fin 4)
  | faultWaitExpiry (line : Fin 4)
  | probeEnd (line : Fin 4)
  | setLines (enables : BitVec 8) (missLimit : Nat)
  | readLine (line : Nat)
  | addressCharacter (value : Byte)
  | dataCharacter (value : Byte)
  | gapTimerExpiry
  | responseStart
  | responseEnd
  | setLink (station baud : Nat)
  | setMask (mask : BitVec 48)
  | clearEvents (mask : BitVec 48)
  | readStatus
  | store
  | storeWriteComplete (good : Bool)
  | restart
  | spoiledCharacter
  | backwardFrameStart (line : Fin 4) (micros : Nat)
  | powerLoss
deriving DecidableEq, Repr

end Sys2Proof
end

