-- ==== Sys2Proof/WellFormed.lean ====
section
/-! DEFINITION. Which commands can reach the part at all: every field fits its width on the wire (R186), every list
fits the length its message gives (12.3), a raw code has 12 bits (2.2). The ranges a command ALLOWS are not checked
here: a field outside them reaches the part and is refused (R163). -/

namespace Sys2Proof

/-- A field of one byte. -/
abbrev fits1 (n : Nat) : Bool := decide (n < 2 ^ 8)

/-- A field of two bytes. -/
abbrev fits2 (n : Nat) : Bool := decide (n < 2 ^ 16)

/-- A field of three bytes. -/
abbrev fits3 (n : Nat) : Bool := decide (n < 2 ^ 24)

/-- The q and age of an entry record are two bytes each (12.4). -/
def EntryRecord.wf (r : EntryRecord) : Bool := fits2 r.q && fits2 r.age

/-- The widths of SET_PORTAL's fields (R186 applied to the ranges of R55). -/
def PortalFields.wf (c : PortalFields) : Bool :=
  fits1 c.primary && fits1 c.secondary && fits1 c.k && fits3 c.lthMin && fits3 c.lthCap && fits3 c.lthFallback &&
  fits2 c.w && fits2 c.up && fits2 c.dn && fits1 c.deadBand && fits1 c.fallHoldLength && fits1 c.staleLimit &&
  fits1 c.holdLimit && fits1 c.recoverCount && fits2 c.disagreement && fits2 c.uMin && fits2 c.updateInterval

/-- The command's fields fit their widths, its lists their message's length, a raw code its 12 bits. -/
def Instr.wf : Instr → Bool
  | .fullReset => true
  | .enter slot line address portal stage cls q age pinCode =>
      fits2 slot && fits1 line && fits1 address && fits1 portal && fits1 stage && fits1 cls && fits2 q && fits2 age
        && fits2 pinCode
  | .amend slot _ portal stage cls q age line address =>
      fits2 slot && fits1 portal && fits1 stage && fits1 cls && fits2 q && fits2 age && fits1 line && fits1 address
  | .suspend slot => fits2 slot
  | .resume slot => fits2 slot
  | .retire slot => fits2 slot
  | .pin slot code => fits2 slot && fits2 code
  | .unpin slot => fits2 slot
  | .locate slot => fits2 slot
  | .lookup slot => fits2 slot
  | .find line address => fits1 line && fits1 address
  | .openWindow first last direction => fits2 first && fits2 last && fits1 direction
  | .writeNext records => decide (1 ≤ records.length) && decide (records.length ≤ 16) && records.all EntryRecord.wf
  | .readNext count => fits1 count
  | .readMarks => true
  | .clearMarks _ => true
  | .ageTickExpiry => true
  | .setChannel channel offset gain low high =>
      fits1 channel && fits2 offset && fits2 gain && fits3 low && fits3 high
  | .setScan positions interval => decide (positions.length = 8) && positions.all fits1 && fits2 interval
  | .readChannel channel => fits1 channel
  | .scanTimerExpiry => true
  | .conversionComplete raw => decide (raw < 2 ^ 12)
  | .setPortal portal fields => fits1 portal && fields.wf
  | .setRole portal role => fits1 portal && fits1 role
  | .setManual portal luminance => fits1 portal && fits3 luminance
  | .setAuto portal => fits1 portal
  | .readPortal portal => fits1 portal
  | .updateTimerExpiry _ => true
  | .setStages portal count pairs =>
      fits1 portal && decide (pairs.length = count) && decide (4 + 5 * count ≤ 250)
        && pairs.all (fun p => fits2 p.1 && fits3 p.2)
  | .setCompute mode thermal ceiling => fits1 mode && fits2 thermal && fits2 ceiling
  | .setMaintenance count rows =>
      decide (rows.length = count) && decide (3 + 4 * count ≤ 250) && rows.all (fun r => fits2 r.1 && fits2 r.2)
  | .setCurve cls points => fits1 cls && decide (points.length = 17) && points.all fits2
  | .readTables cls => fits1 cls
  | .inputLevelChange _ _ => true
  | .debounceExpiry _ => true
  | .force _ _ => true
  | .unforce _ _ => true
  | .limit _ _ => true
  | .unlimit _ _ => true
  | .freeze _ _ => true
  | .unfreeze _ _ => true
  | .setInput input function _ sense polarity => fits1 input && fits1 function && fits1 sense && fits1 polarity
  | .readInputs => true
  | .forwardFrameEnd _ => true
  | .contention _ => true
  | .replyOutcome _ _ => true
  | .transactionEnd _ => true
  | .faultWaitExpiry _ => true
  | .probeEnd _ => true
  | .setLines _ missLimit => fits1 missLimit
  | .readLine line => fits1 line
  | .addressCharacter _ => true
  | .dataCharacter _ => true
  | .gapTimerExpiry => true
  | .responseStart => true
  | .responseEnd => true
  | .setLink station baud => fits1 station && fits1 baud
  | .setMask _ => true
  | .clearEvents _ => true
  | .readStatus => true
  | .store => true
  | .storeWriteComplete _ => true
  | .restart => true
  | .spoiledCharacter => true
  | .backwardFrameStart _ _ => true
  | .powerLoss => true

end Sys2Proof
end

