-- ==== Sys2Proof/Decode.lean ====
section
/-! DEFINITION. From bits to commands. The rows of spec/opcode_table.json carry no bits, so decodeTableWord spells
none of them (log 19). What the part itself decodes is a supervisory message (R186, 12.3, 12.4): its decoder and the
encoder that a supervisor would use stand here. -/

namespace Sys2Proof

/-- The command a table word spells. No row of the table carries bits, so no word spells one (log 19). -/
def decodeTableWord (_nbits _w : Nat) : Option Instr := none

/-! ### Fields -/

/-- A two-byte field, most significant byte first (R186). -/
def be2 (a b : Byte) : Nat := a.toNat * 256 + b.toNat

/-- A three-byte field, most significant byte first (R186). -/
def be3 (a b c : Byte) : Nat := (a.toNat * 256 + b.toNat) * 256 + c.toNat

/-- The byte of a one-byte field. -/
def to1 (n : Nat) : List Byte := [BitVec.ofNat 8 n]

/-- The bytes of a two-byte field, most significant first (R186, R187). -/
def to2 (n : Nat) : List Byte := [BitVec.ofNat 8 (n / 256), BitVec.ofNat 8 n]

/-- The bytes of a three-byte field, most significant first (R186, R187). -/
def to3 (n : Nat) : List Byte := [BitVec.ofNat 8 (n / 65536), BitVec.ofNat 8 (n / 256), BitVec.ofNat 8 n]

/-- The 4-byte changed-mark mask: position i in byte i ÷ 8, counting from the first (R186). -/
def mask4 (a b c d : Byte) : BitVec 32 := d ++ c ++ b ++ a

/-- The 6-byte event mask: position i in byte i ÷ 8, counting from the first (R186). -/
def mask6 (a b c d e f : Byte) : BitVec 48 := f ++ e ++ d ++ c ++ b ++ a

/-- The bytes of a changed-mark mask (R186). -/
def maskBytes4 (m : BitVec 32) : List Byte :=
  [m.extractLsb' 0 8, m.extractLsb' 8 8, m.extractLsb' 16 8, m.extractLsb' 24 8]

/-- The bytes of an event mask or of the flags (R186). -/
def maskBytes6 (m : BitVec 48) : List Byte :=
  [m.extractLsb' 0 8, m.extractLsb' 8 8, m.extractLsb' 16 8, m.extractLsb' 24 8, m.extractLsb' 32 8,
    m.extractLsb' 40 8]

/-- The packed small fields of an entry record (12.4): what WRITE_NEXT reads of 14 bytes. -/
def decodeRecord (b1 b2 b3 b4 b5 b6 b7 b8 b9 : Byte) : EntryRecord where
  state := (b1.extractLsb' 0 3).toFin
  line := (b2.extractLsb' 6 2).toFin
  address := (b2.extractLsb' 0 6).toFin
  portal := (b3.extractLsb' 5 2).toFin
  stage := (b3.extractLsb' 2 3).toFin
  cls := (b3.extractLsb' 0 2).toFin
  q := be2 b4 b5
  age := be2 b6 b7
  pin := if (b8 ++ b9).getLsbD 15 then some ((b8 ++ b9).extractLsb' 0 10).toFin else none

/-- Entry records of 14 bytes each, to the end of the message; `none` where the length is no whole count (R28). -/
def decodeRecords : List Byte → Option (List EntryRecord)
  | [] => some []
  | _ :: b1 :: b2 :: b3 :: b4 :: b5 :: b6 :: b7 :: b8 :: b9 :: _ :: _ :: _ :: _ :: rest =>
      (decodeRecords rest).map (decodeRecord b1 b2 b3 b4 b5 b6 b7 b8 b9 :: ·)
  | _ => none

/-- Pairs of a fraction (2 bytes) and a floor (3 bytes), to the end of the message (R79). -/
def decodePairs : List Byte → Option (List (Nat × Nat))
  | [] => some []
  | f1 :: f0 :: g2 :: g1 :: g0 :: rest => (decodePairs rest).map ((be2 f1 f0, be3 g2 g1 g0) :: ·)
  | _ => none

/-- Rows of a threshold and a factor (2 bytes each), to the end of the message (R96). -/
def decodeRows : List Byte → Option (List (Nat × Nat))
  | [] => some []
  | t1 :: t0 :: f1 :: f0 :: rest => (decodeRows rest).map ((be2 t1 t0, be2 f1 f0) :: ·)
  | _ => none

/-- Points of two bytes each, to the end of the message (R108). -/
def decodePoints : List Byte → Option (List Nat)
  | [] => some []
  | c1 :: c0 :: rest => (decodePoints rest).map (be2 c1 c0 :: ·)
  | _ => none

/-! ### The messages, one decoder a form of 12.3

Each answers `none` where the length does not fit the command (R164). -/

def decodeEnter : Dest → List Byte → Option Instr
  | _, [s1, s0, l, a, p, st, c, q1, q0, g1, g0, n1, n0] =>
      some (.enter (be2 s1 s0) l.toNat a.toNat p.toNat st.toNat c.toNat (be2 q1 q0) (be2 g1 g0) (be2 n1 n0))
  | _, _ => none

def decodeAmend : Dest → List Byte → Option Instr
  | _, [s1, s0, m, p, st, c, q1, q0, g1, g0, l, a] =>
      some (.amend (be2 s1 s0) m p.toNat st.toNat c.toNat (be2 q1 q0) (be2 g1 g0) l.toNat a.toNat)
  | _, _ => none

/-- The commands that carry one slot. -/
def decodeSlot (f : Nat → Instr) : Dest → List Byte → Option Instr
  | _, [s1, s0] => some (f (be2 s1 s0))
  | _, _ => none

def decodePin : Dest → List Byte → Option Instr
  | _, [s1, s0, c1, c0] => some (.pin (be2 s1 s0) (be2 c1 c0))
  | _, _ => none

/-- The commands that carry no parameter. -/
def decodeNone (c : Instr) : Dest → List Byte → Option Instr
  | _, [] => some c
  | _, _ => none

/-- The commands that carry one field of one byte. -/
def decodeByte (f : Nat → Instr) : Dest → List Byte → Option Instr
  | _, [a] => some (f a.toNat)
  | _, _ => none

/-- The commands that carry two fields of one byte each. -/
def decodeBytes (f : Nat → Nat → Instr) : Dest → List Byte → Option Instr
  | _, [a, b] => some (f a.toNat b.toNat)
  | _, _ => none

/-- The six override commands that carry a portal mask, to the station or broadcast (R122, R123). -/
def decodeMask (f : Dest → BitVec 8 → Instr) : Dest → List Byte → Option Instr
  | d, [m] => some (f d m)
  | _, _ => none

def decodeOpenWindow : Dest → List Byte → Option Instr
  | _, [f1, f0, l1, l0, d] => some (.openWindow (be2 f1 f0) (be2 l1 l0) d.toNat)
  | _, _ => none

/-- 1 to 16 entry records (R28). -/
def decodeWriteNext : Dest → List Byte → Option Instr
  | _, bytes =>
      match decodeRecords bytes with
      | some records =>
          if 1 ≤ records.length ∧ records.length ≤ 16 then some (.writeNext records) else none
      | none => none

def decodeClearMarks : Dest → List Byte → Option Instr
  | _, [a, b, c, d] => some (.clearMarks (mask4 a b c d))
  | _, _ => none

def decodeSetChannel : Dest → List Byte → Option Instr
  | _, [c, o1, o0, g1, g0, l2, l1, l0, h2, h1, h0] =>
      some (.setChannel c.toNat (be2 o1 o0) (be2 g1 g0) (be3 l2 l1 l0) (be3 h2 h1 h0))
  | _, _ => none

def decodeSetScan : Dest → List Byte → Option Instr
  | _, [p0, p1, p2, p3, p4, p5, p6, p7, i1, i0] =>
      some (.setScan ([p0, p1, p2, p3, p4, p5, p6, p7].map (·.toNat)) (be2 i1 i0))
  | _, _ => none

def decodeSetPortal : Dest → List Byte → Option Instr
  | _, [p, c1, c2, k, m2, m1, m0, x2, x1, x0, f2, f1, f0, w1, w0, u1, u0, d1, d0, db, fh, sl, hl, rc, g1, g0, n1, n0,
        i1, i0] =>
      some (.setPortal p.toNat
        { primary := c1.toNat, secondary := c2.toNat, k := k.toNat, lthMin := be3 m2 m1 m0, lthCap := be3 x2 x1 x0,
          lthFallback := be3 f2 f1 f0, w := be2 w1 w0, up := be2 u1 u0, dn := be2 d1 d0, deadBand := db.toNat,
          fallHoldLength := fh.toNat, staleLimit := sl.toNat, holdLimit := hl.toNat, recoverCount := rc.toNat,
          disagreement := be2 g1 g0, uMin := be2 n1 n0, updateInterval := be2 i1 i0 })
  | _, _ => none

def decodeSetManual : Dest → List Byte → Option Instr
  | _, [p, l2, l1, l0] => some (.setManual p.toNat (be3 l2 l1 l0))
  | _, _ => none

/-- Exactly the stated count of pairs (R79). -/
def decodeSetStages : Dest → List Byte → Option Instr
  | _, p :: n :: bytes =>
      match decodePairs bytes with
      | some pairs => if pairs.length = n.toNat then some (.setStages p.toNat n.toNat pairs) else none
      | none => none
  | _, _ => none

def decodeSetCompute : Dest → List Byte → Option Instr
  | _, [m, t1, t0, c1, c0] => some (.setCompute m.toNat (be2 t1 t0) (be2 c1 c0))
  | _, _ => none

/-- Exactly the stated count of rows (R96). -/
def decodeSetMaintenance : Dest → List Byte → Option Instr
  | _, n :: bytes =>
      match decodeRows bytes with
      | some rows => if rows.length = n.toNat then some (.setMaintenance n.toNat rows) else none
      | none => none
  | _, _ => none

/-- Exactly 17 points (R108). -/
def decodeSetCurve : Dest → List Byte → Option Instr
  | _, c :: bytes =>
      match decodePoints bytes with
      | some points => if points.length = 17 then some (.setCurve c.toNat points) else none
      | none => none
  | _, _ => none

def decodeSetInput : Dest → List Byte → Option Instr
  | _, [n, f, m, se, po] => some (.setInput n.toNat f.toNat m se.toNat po.toNat)
  | _, _ => none

def decodeSetLines : Dest → List Byte → Option Instr
  | _, [e, m] => some (.setLines e m.toNat)
  | _, _ => none

/-- The two commands that carry an event mask (R175, R176). -/
def decodeEventMask (f : BitVec 48 → Instr) : Dest → List Byte → Option Instr
  | _, [a, b, c, d, e, g] => some (f (mask6 a b c d e g))
  | _, _ => none

/-- The command codes of 12.3, each with its form. -/
def messageForms : List (Nat × (Dest → List Byte → Option Instr)) :=
  [ (0x10, decodeEnter),
    (0x11, decodeAmend),
    (0x12, decodeSlot .suspend),
    (0x13, decodeSlot .resume),
    (0x14, decodeSlot .retire),
    (0x15, decodePin),
    (0x16, decodeSlot .unpin),
    (0x17, decodeSlot .locate),
    (0x18, decodeSlot .lookup),
    (0x19, decodeBytes .find),
    (0x1A, decodeOpenWindow),
    (0x1B, decodeWriteNext),
    (0x1C, decodeByte .readNext),
    (0x1D, decodeNone .readMarks),
    (0x1E, decodeClearMarks),
    (0x20, decodeSetChannel),
    (0x21, decodeSetScan),
    (0x22, decodeByte .readChannel),
    (0x30, decodeSetPortal),
    (0x31, decodeBytes .setRole),
    (0x32, decodeSetManual),
    (0x33, decodeByte .setAuto),
    (0x34, decodeByte .readPortal),
    (0x38, decodeSetStages),
    (0x40, decodeSetCompute),
    (0x41, decodeSetMaintenance),
    (0x42, decodeSetCurve),
    (0x43, decodeByte .readTables),
    (0x50, decodeMask .force),
    (0x51, decodeMask .unforce),
    (0x52, decodeMask .limit),
    (0x53, decodeMask .unlimit),
    (0x54, decodeMask .freeze),
    (0x55, decodeMask .unfreeze),
    (0x56, decodeSetInput),
    (0x57, decodeNone .readInputs),
    (0x60, decodeSetLines),
    (0x61, decodeByte .readLine),
    (0x70, decodeBytes .setLink),
    (0x71, decodeEventMask .setMask),
    (0x72, decodeEventMask .clearEvents),
    (0x73, decodeNone .readStatus),
    (0x74, decodeNone .store),
    (0x75, decodeNone .restart) ]

/-- The command of a good message: its code and parameters, without the check. `none` is the FORMAT refusal of an
unknown code or of a length that does not fit (R164). -/
def decodeMessage (dest : Dest) : List Byte → Option Instr
  | [] => none
  | code :: params =>
      match messageForms.lookup code.toNat with
      | some form => form dest params
      | none => none

/-- The commands carried out when broadcast, by their codes (R168, 8.9). -/
def broadcastCode (code : Byte) : Bool := decide (0x50 ≤ code.toNat) && decide (code.toNat ≤ 0x55)

/-! ### The encoder -/

/-- The 14 bytes of a record, ignored and read-as-zero positions 0 (12.4). -/
def encodeRecord (r : EntryRecord) : List Byte :=
  let code : BitVec 10 := match r.pin with
    | some c => BitVec.ofFin c
    | none => 0#10
  let group : BitVec 16 := BitVec.ofBool r.pin.isSome ++ 0#5 ++ code
  [0#8, 0#5 ++ BitVec.ofFin (w := 3) r.state, BitVec.ofFin (w := 2) r.line ++ BitVec.ofFin (w := 6) r.address,
    0#1 ++ BitVec.ofFin (w := 2) r.portal ++ BitVec.ofFin (w := 3) r.stage ++ BitVec.ofFin (w := 2) r.cls]
    ++ to2 r.q ++ to2 r.age ++ [group.extractLsb' 8 8, group.extractLsb' 0 8, 0#8, 0#8, 0#8, 0#8]

/-- The message of a link command: to whom it is addressed, its code and its parameters (12.3). An event has none. -/
def encodeMessage : Instr → Option (Dest × List Byte)
  | .enter slot line address portal stage cls q age pinCode =>
      some (.station, 0x10#8 :: to2 slot ++ to1 line ++ to1 address ++ to1 portal ++ to1 stage ++ to1 cls ++ to2 q
        ++ to2 age ++ to2 pinCode)
  | .amend slot present portal stage cls q age line address =>
      some (.station, 0x11#8 :: to2 slot ++ [present] ++ to1 portal ++ to1 stage ++ to1 cls ++ to2 q ++ to2 age
        ++ to1 line ++ to1 address)
  | .suspend slot => some (.station, 0x12#8 :: to2 slot)
  | .resume slot => some (.station, 0x13#8 :: to2 slot)
  | .retire slot => some (.station, 0x14#8 :: to2 slot)
  | .pin slot code => some (.station, 0x15#8 :: to2 slot ++ to2 code)
  | .unpin slot => some (.station, 0x16#8 :: to2 slot)
  | .locate slot => some (.station, 0x17#8 :: to2 slot)
  | .lookup slot => some (.station, 0x18#8 :: to2 slot)
  | .find line address => some (.station, 0x19#8 :: to1 line ++ to1 address)
  | .openWindow first last direction => some (.station, 0x1A#8 :: to2 first ++ to2 last ++ to1 direction)
  | .writeNext records => some (.station, 0x1B#8 :: (records.map encodeRecord).flatten)
  | .readNext count => some (.station, 0x1C#8 :: to1 count)
  | .readMarks => some (.station, [0x1D#8])
  | .clearMarks mask => some (.station, 0x1E#8 :: maskBytes4 mask)
  | .setChannel channel offset gain low high =>
      some (.station, 0x20#8 :: to1 channel ++ to2 offset ++ to2 gain ++ to3 low ++ to3 high)
  | .setScan positions interval => some (.station, 0x21#8 :: (positions.map to1).flatten ++ to2 interval)
  | .readChannel channel => some (.station, 0x22#8 :: to1 channel)
  | .setPortal portal c =>
      some (.station, 0x30#8 :: to1 portal ++ to1 c.primary ++ to1 c.secondary ++ to1 c.k ++ to3 c.lthMin
        ++ to3 c.lthCap ++ to3 c.lthFallback ++ to2 c.w ++ to2 c.up ++ to2 c.dn ++ to1 c.deadBand
        ++ to1 c.fallHoldLength ++ to1 c.staleLimit ++ to1 c.holdLimit ++ to1 c.recoverCount ++ to2 c.disagreement
        ++ to2 c.uMin ++ to2 c.updateInterval)
  | .setRole portal role => some (.station, 0x31#8 :: to1 portal ++ to1 role)
  | .setManual portal luminance => some (.station, 0x32#8 :: to1 portal ++ to3 luminance)
  | .setAuto portal => some (.station, 0x33#8 :: to1 portal)
  | .readPortal portal => some (.station, 0x34#8 :: to1 portal)
  | .setStages portal count pairs =>
      some (.station, 0x38#8 :: to1 portal ++ to1 count ++ (pairs.map fun p => to2 p.1 ++ to3 p.2).flatten)
  | .setCompute mode thermal ceiling => some (.station, 0x40#8 :: to1 mode ++ to2 thermal ++ to2 ceiling)
  | .setMaintenance count rows =>
      some (.station, 0x41#8 :: to1 count ++ (rows.map fun r => to2 r.1 ++ to2 r.2).flatten)
  | .setCurve cls points => some (.station, 0x42#8 :: to1 cls ++ (points.map to2).flatten)
  | .readTables cls => some (.station, 0x43#8 :: to1 cls)
  | .force dest mask => some (dest, [0x50#8, mask])
  | .unforce dest mask => some (dest, [0x51#8, mask])
  | .limit dest mask => some (dest, [0x52#8, mask])
  | .unlimit dest mask => some (dest, [0x53#8, mask])
  | .freeze dest mask => some (dest, [0x54#8, mask])
  | .unfreeze dest mask => some (dest, [0x55#8, mask])
  | .setInput input function mask sense polarity =>
      some (.station, 0x56#8 :: to1 input ++ to1 function ++ [mask] ++ to1 sense ++ to1 polarity)
  | .readInputs => some (.station, [0x57#8])
  | .setLines enables missLimit => some (.station, 0x60#8 :: [enables] ++ to1 missLimit)
  | .readLine line => some (.station, 0x61#8 :: to1 line)
  | .setLink station baud => some (.station, 0x70#8 :: to1 station ++ to1 baud)
  | .setMask mask => some (.station, 0x71#8 :: maskBytes6 mask)
  | .clearEvents mask => some (.station, 0x72#8 :: maskBytes6 mask)
  | .readStatus => some (.station, [0x73#8])
  | .store => some (.station, [0x74#8])
  | .restart => some (.station, [0x75#8])
  | .fullReset => none
  | .ageTickExpiry => none
  | .scanTimerExpiry => none
  | .conversionComplete _ => none
  | .updateTimerExpiry _ => none
  | .inputLevelChange _ _ => none
  | .debounceExpiry _ => none
  | .forwardFrameEnd _ => none
  | .contention _ => none
  | .replyOutcome _ _ => none
  | .transactionEnd _ => none
  | .faultWaitExpiry _ => none
  | .probeEnd _ => none
  | .addressCharacter _ => none
  | .dataCharacter _ => none
  | .gapTimerExpiry => none
  | .responseStart => none
  | .responseEnd => none
  | .storeWriteComplete _ => none
  | .spoiledCharacter => none
  | .backwardFrameStart _ _ => none
  | .powerLoss => none

end Sys2Proof
end

