-- ==== Sys2Proof/Config.lean ====
section
/-! DEFINITION. What the spec fixes once for every part (durations, counts). -/

namespace Sys2Proof.Config

/-- A conversion completes 20 ms after it begins (R38). -/
def conversionMs : Nat := 20

/-- The age tick expires every six minutes (R32). -/
def ageTickMs : Nat := 360000

/-- An input's debounce timer (R118). -/
def debounceMs : Nat := 40

/-- The fault wait of a FAULTED line (R149). -/
def faultWaitMs : Nat := 2000

/-- The gap timer's length, in character times (R160). -/
def gapCharacterTimes : Nat := 5

/-- The reply window opens this long after the forward frame ends, in microseconds (R130). -/
def windowOpensMicros : Nat := 2000

/-- The reply window closes this long after the forward frame ends, in microseconds (R130). -/
def windowClosesMicros : Nat := 10000

/-- A queued frame that goes unpolled: the run count at which the queue yields to a poll (R140). -/
def runLimit : Nat := 8

/-- The contention count at which a line is faulted (R149). -/
def contentionLimit : Nat := 4

/-- A release is sent at most this many times (R22, R144). -/
def releaseAttempts : Nat := 3

/-- The top of the luminance scale, in tcd (Units). -/
def topLuminance : Nat := 99999

end Sys2Proof.Config
end

