-- ==== Sys2Proof/Machine/State.lean ====
section
/-! DEFINITION. The state of the part as plain data: the settings a store keeps, the live state of each block, the
image, and the queue of waiting commands; and the state right after the first full reset. -/

namespace Sys2Proof.Machine

open Sys2Proof

/-! ### Why a step may stop -/

/-- A step that stops the part. The spec gives no command or event such an effect (the loss of the supply is a state,
ended by FULL_RESET), so there is no constructor and no step faults (safe: nothing is cut off). -/
inductive Fault where
deriving DecidableEq, Repr

/-- A command the model gives no meaning. Raised by exec's arms alone, for a row not yet modelled (safe: the run stops);
no arm raises it now. -/
inductive Refusal where
  | notModelled (mnemonic : String)
deriving DecidableEq, Repr

/-! ### Timers -/

/-- A timer: idle, or running with the length it was last started with (log 3). -/
inductive Timer where
  | idle
  | running (length : Nat)
deriving DecidableEq, Repr

/-! ### The settings (R179) -/

/-- A channel's calibration (R36). -/
structure Calibration where
  offset : Nat
  gain : Nat
  lowLimit : Nat
  highLimit : Nat
deriving DecidableEq, Repr

/-- The role of a portal (R55). -/
inductive Role where
  | entrance
  | exit
  | closed
deriving DecidableEq, Repr

/-- A stage's configuration (R77). -/
structure StageConfig where
  f : Nat
  floor : Nat
deriving DecidableEq, Repr

/-- A portal's configuration (R55), with its stage count n and stage configurations (R77). -/
structure PortalConfig where
  role : Role
  primary : Option (Fin 8)
  secondary : Option (Fin 8)
  k : Nat
  lthMin : Nat
  lthCap : Nat
  lthFallback : Nat
  w : Nat
  up : Nat
  dn : Nat
  deadBand : Nat
  fallHoldLength : Nat
  staleLimit : Nat
  holdLimit : Nat
  recoverCount : Nat
  disagreement : Nat
  uMin : Nat
  updateInterval : Nat
  stageCount : Nat
  stages : Tbl StageConfig 8
deriving DecidableEq, Repr

/-- The rounding modes (R1, R93). -/
inductive Rounding where
  | nearest
  | towardZero
  | away
deriving DecidableEq, Repr

/-- The compute settings (R93). -/
structure Compute where
  mode : Rounding
  thermal : Nat
  ceiling : Nat
deriving DecidableEq, Repr

/-- A row of the maintenance table (R95). -/
structure MaintenanceRow where
  threshold : Nat
  factor : Nat
deriving DecidableEq, Repr

/-- A dimming curve: the points c[0] to c[16] (R106). -/
abbrev Curve := Tbl Nat 17

/-- What a discrete input raises (R117). -/
inductive InputFunction where
  | none
  | force
  | limit
deriving DecidableEq, Repr

/-- Whether an input acts while asserted or at its onset (R117). -/
inductive Sense where
  | level
  | edge
deriving DecidableEq, Repr

/-- Which physical level of an input is the asserted one (R117). -/
inductive Polarity where
  | activeEnergised
  | activeDeenergised
deriving DecidableEq, Repr

/-- An input record (R117). Bit p of the mask is Pp. -/
structure InputRecord where
  function : InputFunction
  mask : BitVec 4
  sense : Sense
  polarity : Polarity
deriving DecidableEq, Repr

/-- The baud rates (R158). -/
inductive Baud where
  | b9600
  | b19200
  | b38400
  | b57600
deriving DecidableEq, Repr

/-- A scan list: at each position a channel, or `none` for DISABLED (R45). -/
abbrev ScanList := Tbl (Option (Fin 8)) 8

/-- The stored settings of every block as working memory holds them (R179, all but the roster's slots). -/
structure Settings where
  channels : Tbl Calibration 8
  scanList : ScanList
  scanInterval : Nat
  portals : Tbl PortalConfig 4
  curves : Tbl Curve 4
  maintenance : List MaintenanceRow
  compute : Compute
  inputs : Tbl InputRecord 6
  mask : BitVec 48
  enables : Tbl Bool 4
  missLimit : Nat
  station : Nat
  baud : Baud
deriving DecidableEq, Repr

/-! ### The roster (R2 to R32) -/

/-- The state of an entry (R2). -/
inductive EntryState where
  | free
  | provisional
  | active
  | suspended
  | retiring
deriving DecidableEq, Repr

/-- The health of an entry (R2). -/
inductive Health where
  | unknown
  | ok
  | derated
  | lampFail
  | gearFail
  | lost
deriving DecidableEq, Repr

/-- A roster entry (R2). `confirmed` is `none` for NONE. -/
structure Entry where
  state : EntryState
  line : Fin 4
  address : Fin 64
  portal : Fin 4
  stage : Fin 8
  cls : Fin 4
  q : Nat
  age : Nat
  sub : Nat
  pin : Option Nat
  health : Health
  miss : Nat
  unreachable : Bool
  setLevel : Nat
  confirmed : Option Nat
deriving DecidableEq, Repr

/-- The FREE value of every field (R2). -/
def Entry.freed : Entry where
  state := .free
  line := 0
  address := 0
  portal := 0
  stage := 0
  cls := 0
  q := 0
  age := 0
  sub := 0
  pin := none
  health := .unknown
  miss := 0
  unreachable := false
  setLevel := 0
  confirmed := none

/-- The direction of a transfer window (R27). -/
inductive Direction where
  | read
  | write
deriving DecidableEq, Repr

/-- An open transfer window (R27). -/
structure Window where
  first : Nat
  last : Nat
  direction : Direction
  cursor : Nat
deriving DecidableEq, Repr

/-- The roster unit: slots, changed marks, transfer window (`none` when closed) and age tick. -/
structure Roster where
  slots : Tbl Entry 256
  marks : BitVec 32
  window : Option Window
  ageTick : Timer
deriving DecidableEq, Repr

/-! ### The photometer scanner (R36 to R54) -/

/-- The status of a reading (R37). -/
inductive ReadingStatus where
  | none
  | valid
  | saturated
  | invalid
  | implausible
deriving DecidableEq, Repr

/-- A channel's latest reading (R36). -/
structure Reading where
  luminance : Option Nat
  status : ReadingStatus
  number : BitVec 8
deriving DecidableEq, Repr

/-- A scan in progress: the working list, the position reached and the channel of the conversion in flight (R46). -/
structure Scan where
  list : ScanList
  position : Fin 8
  channel : Fin 8
deriving DecidableEq, Repr

/-- The photometer scanner. `scan` is `none` while it is idle. -/
structure Scanner where
  readings : Tbl Reading 8
  scan : Option Scan
  timer : Timer
deriving DecidableEq, Repr

/-! ### The portal controllers (R55 to R92) -/

/-- The control state of a portal (R56). -/
inductive ControlState where
  | start
  | auto
  | hold
  | fallback
  | manual
deriving DecidableEq, Repr

/-- The direction of the last non-zero change of F (R56). -/
inductive Trend where
  | flat
  | rising
  | falling
deriving DecidableEq, Repr

/-- Why a portal lacked an S (R56). -/
inductive Cause where
  | none
  | invalid (channel : Fin 8)
  | implausible (channel : Fin 8)
  | stale (channel : Fin 8)
  | noChannel
deriving DecidableEq, Repr

/-- What a portal holds of an assigned channel: last seen and staleness (R56, R58). -/
structure Sight where
  lastSeen : Option (BitVec 8)
  staleness : Nat
deriving DecidableEq, Repr

/-- The conditions of a stage's last output computation (R77). -/
structure StageFlags where
  short : Bool
  dark : Bool
  limited : Bool
  minHeld : Bool
  forced : Bool
deriving DecidableEq, Repr

/-- The live fields of a stage record (R77). -/
structure Stage where
  requirement : Nat
  q : Nat
  capacity : Nat
  u : Nat
  shortfall : Nat
  flags : StageFlags
deriving DecidableEq, Repr

/-- No flag set. -/
def StageFlags.clear : StageFlags := ⟨false, false, false, false, false⟩

/-- The unused values of a stage position's live fields (R78). -/
def Stage.unused : Stage := ⟨0, 0, 0, 0, 0, StageFlags.clear⟩

/-- The live part of a portal record (R56), its stage records (R77) and its update timer (R57). `updated` says whether an
update has run since the last reset (R113). -/
structure PortalLive where
  control : ControlState
  filtered : Nat
  seeded : Bool
  trend : Trend
  fallHold : Nat
  holdCount : Nat
  goodCount : Nat
  cause : Cause
  priorCause : Cause
  manualLth : Nat
  disagreeing : Bool
  riseJump : Bool
  controlLth : Nat
  appliedLth : Nat
  primarySight : Sight
  secondarySight : Sight
  stages : Tbl Stage 8
  updated : Bool
  timer : Timer
deriving DecidableEq, Repr

/-! ### The override unit (R117 to R128) -/

/-- A pending debounce (R118). -/
structure Debounce where
  candidate : InputLevel
  timer : Timer
deriving DecidableEq, Repr

/-- The live state of a discrete input (R118). `accepted` is `none` for NONE, `debounce` is `none` when idle. -/
structure InputLive where
  physical : InputLevel
  accepted : Option InputLevel
  debounce : Option Debounce
deriving DecidableEq, Repr

/-- The override unit: inputs, and per portal (bit p for Pp) a force latch, a limit latch and a freeze flag. -/
structure Overrides where
  inputs : Tbl InputLive 6
  forceLatch : BitVec 4
  limitLatch : BitVec 4
  freeze : BitVec 4
deriving DecidableEq, Repr

/-! ### The line units (R129 to R156) -/

/-- What a queued request asks for: a level, a release with the attempts already made, or an IDENT (R132). -/
inductive RequestKind where
  | level (code : Nat)
  | release (attemptsMade : Nat)
  | ident
deriving DecidableEq, Repr

/-- A request record of a level queue (R132). -/
structure Request where
  kind : RequestKind
  slot : Fin 256
  address : Fin 64
deriving DecidableEq, Repr

/-- The kind of a transaction, with the level sent or the attempt number (R132). -/
inductive TransactionKind where
  | level (code : Nat)
  | release (attempt : Nat)
  | ident
  | status
  | probe
deriving DecidableEq, Repr

/-- The phase of a transaction (R132). -/
inductive Phase where
  | forward
  | window
  | backward
  | gap
deriving DecidableEq, Repr

/-- The transaction in flight (R132): its kind, the slot and address it concerns (`none` for a PROBE), its phase, and
whether activity before the reply window has made its reply GARBLED (R130, R131). -/
structure Transaction where
  kind : TransactionKind
  target : Option (Fin 256 × Fin 64)
  phase : Phase
  garbled : Bool
deriving DecidableEq, Repr

/-- A line unit (R132). `aborting` holds for the 3 ms from an abort to the transaction's end (R131, log 6); `driving` is
the forward frame being driven onto the pair, start cell at bit 23 (R188). -/
structure LineUnit where
  faulted : Bool
  queue : List Request
  cursor : Fin 256
  contentions : Nat
  run : Nat
  inFlight : Option Transaction
  aborting : Bool
  driving : Option (BitVec 24)
  faultWait : Timer
deriving DecidableEq, Repr

/-! ### The link unit (R157 to R171) -/

/-- A response (R165): the value of its address character, then its data characters from the length to the check. -/
structure Response where
  address : Byte
  body : List Byte
deriving DecidableEq, Repr

/-- What waits for a response to end or be cancelled (R170). -/
inductive Held where
  | nothing
  | setLink (station : Nat) (baud : Baud)
  | restart
deriving DecidableEq, Repr

/-- The receive state (8.2) with what the link unit holds in it (R158). -/
inductive Receive where
  | asleep
  | length (dest : Dest)
  | body (dest : Dest) (n : Nat) (got : List Byte)
  | turnaround (response : Response) (held : Held)
  | sending (response : Response) (held : Held)
deriving DecidableEq, Repr

/-- The link unit. The gap timer counts character times. -/
structure Link where
  receive : Receive
  gap : Timer
deriving DecidableEq, Repr

/-! ### The event unit and the settings store (R172 to R184) -/

/-- The open-drain fault output: conducting while deasserted; released while asserted and while unpowered (R174). -/
inductive FaultOutput where
  | conducting
  | released
deriving DecidableEq, Repr

/-- The event unit's live state. -/
structure Events where
  flags : BitVec 48
  output : FaultOutput
deriving DecidableEq, Repr

/-- What an image keeps (R179): the settings, and the stored fields of each slot. A stored entry is an entry whose live
fields stand at their values after a reset. -/
structure Image where
  settings : Settings
  slots : Tbl Entry 256
deriving DecidableEq, Repr

/-- The store state (R180), WRITING with the snapshot being written (R181). -/
inductive StoreState where
  | idle
  | writing (snapshot : Image)
  | failed
deriving DecidableEq, Repr

/-- The settings store: its state, and the non-volatile image with its check and completion record (R179, R180). -/
structure Store where
  state : StoreState
  image : Image
  check : BitVec 16
  complete : Bool
deriving DecidableEq, Repr

/-! ### The whole part -/

/-- The state of the part. `pending`, the queue of waiting commands, is the model's own. -/
structure State where
  powered : Bool
  settings : Settings
  roster : Roster
  scanner : Scanner
  portals : Tbl PortalLive 4
  overrides : Overrides
  lines : Tbl LineUnit 4
  link : Link
  events : Events
  store : Store
  pending : List Instr
deriving DecidableEq, Repr

/-! ### The factory defaults (10.4) -/

/-- The default stages (R77): n 5, with the unused values at positions 5 to 7 (R78). -/
def StageConfig.defaults : Tbl StageConfig 8 :=
  ⟨[⟨1000, 60⟩, ⟨500, 60⟩, ⟨250, 60⟩, ⟨100, 60⟩, ⟨0, 60⟩, ⟨0, 0⟩, ⟨0, 0⟩, ⟨0, 0⟩], rfl⟩

/-- The default configuration of a portal with the given primary and secondary channels (R55). -/
def PortalConfig.defaults (primary secondary : Fin 8) : PortalConfig where
  role := .entrance
  primary := some primary
  secondary := some secondary
  k := 50
  lthMin := 20
  lthCap := 3000
  lthFallback := 3000
  w := 32
  up := 200
  dn := 20
  deadBand := 10
  fallHoldLength := 30
  staleLimit := 5
  holdLimit := 60
  recoverCount := 3
  disagreement := 300
  uMin := 100
  updateInterval := 1000
  stageCount := 5
  stages := StageConfig.defaults

/-- The default curve (R106). -/
def Curve.straightLine : Curve :=
  ⟨[0, 64, 128, 192, 256, 320, 384, 448, 512, 575, 639, 703, 767, 831, 895, 959, 1023], rfl⟩

/-- Every stored setting at its factory default (10.4). -/
def Settings.defaults : Settings where
  channels := Tbl.fill 8 ⟨0, 256, 0, 99999⟩
  scanList := ⟨[some 0, some 1, some 2, some 3, some 4, some 5, some 6, some 7], rfl⟩
  scanInterval := 500
  portals := ⟨[PortalConfig.defaults 0 1, PortalConfig.defaults 2 3, PortalConfig.defaults 4 5,
    PortalConfig.defaults 6 7], rfl⟩
  curves := Tbl.fill 4 Curve.straightLine
  maintenance := [⟨0, 1000⟩]
  compute := ⟨.nearest, 700, 6000⟩
  inputs := Tbl.fill 6 ⟨.none, 0#4, .level, .activeEnergised⟩
  mask := 0x240000000000#48
  enables := Tbl.fill 4 true
  missLimit := 3
  station := 31
  baud := .b19200

/-! ### After the first full reset -/

/-- A reading that no conversion has completed for (R54). -/
def Reading.initial : Reading := ⟨none, .none, 0#8⟩

/-- A stage position in use after a reset, with its requirement and Q (R92). -/
def Stage.initial (r : Nat) : Stage := ⟨r, r, 0, 0, 0, StageFlags.clear⟩

/-- A default portal after a reset: ENTRANCE, lit for the Lth_fallback of 3,000 (R76, R92). -/
def PortalLive.initial : PortalLive where
  control := .start
  filtered := 0
  seeded := false
  trend := .flat
  fallHold := 0
  holdCount := 0
  goodCount := 0
  cause := .none
  priorCause := .none
  manualLth := 0
  disagreeing := false
  riseJump := true
  controlLth := 3000
  appliedLth := 3000
  primarySight := ⟨none, 0⟩
  secondarySight := ⟨none, 0⟩
  stages := ⟨[Stage.initial 3000, Stage.initial 1500, Stage.initial 750, Stage.initial 300, Stage.initial 60,
    Stage.unused, Stage.unused, Stage.unused], rfl⟩
  updated := false
  timer := .running 1000

/-- An input after a reset: NONE accepted, and a debounce begun toward the physical level (R128). -/
def InputLive.initial (physical : InputLevel) : InputLive :=
  ⟨physical, none, some ⟨physical, .running Config.debounceMs⟩⟩

/-- A line unit after a reset (R156). -/
def LineUnit.initial : LineUnit where
  faulted := false
  queue := []
  cursor := 0
  contentions := 0
  run := 0
  inFlight := none
  aborting := false
  driving := none
  faultWait := .idle

/-- The part right after the full reset of a part whose store has never been written: the image is bad, every setting is
at its default, STORE_BAD is set (position 47) and the fault output released (R178, R180, R183; log 4, log 5). -/
def State.reset : State where
  powered := true
  settings := Settings.defaults
  roster := ⟨Tbl.fill 256 Entry.freed, 0xFFFFFFFF#32, none, .running Config.ageTickMs⟩
  scanner := ⟨Tbl.fill 8 Reading.initial, none, .running 500⟩
  portals := Tbl.fill 4 PortalLive.initial
  overrides := ⟨Tbl.fill 6 (InputLive.initial .deenergised), 0#4, 0#4, 0#4⟩
  lines := Tbl.fill 4 LineUnit.initial
  link := ⟨.asleep, .idle⟩
  events := ⟨0x800000000000#48, .released⟩
  store := ⟨.idle, ⟨Settings.defaults, Tbl.fill 256 Entry.freed⟩, 0#16, false⟩
  pending := []

end Sys2Proof.Machine
end

