-- ==== Sys2Proof/Machine/Flags.lean ====
section
/-! DEFINITION. The event flags, their positions and the fault output (section 9.1, R172, R174). -/

namespace Sys2Proof.Machine

open Sys2Proof

/-- The events a block may report, one for each flag (9.1). -/
inductive Event where
  | chInvalid (channel : Fin 8)
  | chLimit (channel : Fin 8)
  | pDisagree (portal : Fin 4)
  | pHold (portal : Fin 4)
  | pFallback (portal : Fin 4)
  | pShort (portal : Fin 4)
  | pDark (portal : Fin 4)
  | lineFault (line : Fin 4)
  | entryFail
  | entryLost
  | entryRecovered
  | entryUnreachable
  | scanSkip
  | forceOn
  | storeFail
  | storeBad
deriving DecidableEq, Repr

/-- The position of an event's flag (table of 9.1). -/
def flagPosition : Event → Nat
  | .chInvalid c => c.val
  | .chLimit c => 8 + c.val
  | .pDisagree p => 16 + p.val
  | .pHold p => 20 + p.val
  | .pFallback p => 24 + p.val
  | .pShort p => 28 + p.val
  | .pDark p => 32 + p.val
  | .lineFault l => 36 + l.val
  | .entryFail => 40
  | .entryLost => 41
  | .entryRecovered => 42
  | .entryUnreachable => 43
  | .scanSkip => 44
  | .forceOn => 45
  | .storeFail => 46
  | .storeBad => 47

/-- The flag of an event, alone. -/
def flagBit (e : Event) : BitVec 48 := 1#48 <<< flagPosition e

/-- The fault output is asserted, and so released, while some flag is set whose mask position is clear (R174). -/
def faultOutputOf (flags mask : BitVec 48) : FaultOutput :=
  if flags &&& ~~~mask = 0#48 then .conducting else .released

/-- The flags replaced and the output formed afresh (R174). -/
def withFlags (flags : BitVec 48) (s : State) : State :=
  { s with events := ⟨flags, faultOutputOf flags s.settings.mask⟩ }

/-- A report latches its flag and the output is re-formed (R172, R174). -/
def report (e : Event) (s : State) : State := withFlags (s.events.flags ||| flagBit e) s

/-- A report made only where its event has happened. -/
def reportIf (happened : Bool) (e : Event) (s : State) : State := if happened then report e s else s

end Sys2Proof.Machine
end

