-- ==== Sys2Proof/Machine/Ops.lean ====
section
/-! DEFINITION. The operations every block shares: the rounded divisions, the entries and their changed marks, the
lines as the other blocks see them, the transfer window, and how a command is refused or taken and answered. -/

namespace Sys2Proof.Machine

open Sys2Proof

/-! ### Rounded divisions (R1) -/

/-- x divided by y, rounded under the mode (R1), for a quotient that is not negative. -/
def divRound (mode : Rounding) (x y : Nat) : Nat :=
  let quotient := x / y
  let rest := x % y
  match mode with
  | .towardZero => quotient
  | .away => if rest = 0 then quotient else quotient + 1
  | .nearest =>
      if 2 * rest < y then quotient
      else if y < 2 * rest then quotient + 1
      else if quotient % 2 = 0 then quotient else quotient + 1

/-- The signed form: a negative quotient rounds to the negative of what its magnitude rounds to (R1). -/
def divRoundInt (mode : Rounding) (x : Int) (y : Nat) : Int :=
  if x < 0 then -(divRound mode x.natAbs y : Int) else (divRound mode x.natAbs y : Int)

/-! ### Timers -/

/-- Whether a timer runs, and so can expire. -/
def Timer.isRunning : Timer → Bool
  | .idle => false
  | .running _ => true

/-! ### The roster's entries -/

/-- The entry in a slot. -/
def entryAt (s : State) (slot : Fin 256) : Entry := s.roster.slots.get slot

/-- An entry written, with no mark set. -/
def putEntry (slot : Fin 256) (e : Entry) (s : State) : State :=
  { s with roster := { s.roster with slots := s.roster.slots.set slot e } }

/-- The changed mark of a slot's block: mark m covers the slots 8m to 8m+7 (1.11). -/
def blockBit (slot : Fin 256) : BitVec 32 := 1#32 <<< (slot.val / 8)

/-- The mark of an entry's block set (R30). -/
def mark (slot : Fin 256) (s : State) : State :=
  { s with roster := { s.roster with marks := s.roster.marks ||| blockBit slot } }

/-- The mark set where a field it covers was written. -/
def markIf (written : Bool) (slot : Fin 256) (s : State) : State := if written then mark slot s else s

/-- An entry freed: every field takes its FREE value in the same event (R2), and its mark is set (R22, R30). -/
def freeSlot (slot : Fin 256) (s : State) : State := mark slot (putEntry slot Entry.freed s)

/-- The conflict check fails where another slot holds a non-FREE entry with that line and address (R5). -/
def conflicts (s : State) (slot : Option (Fin 256)) (line : Fin 4) (address : Fin 64) : Bool :=
  s.roster.slots.indexed.any fun (k, e) =>
    decide (some k ≠ slot) && decide (e.state ≠ .free) && decide (e.line = line) && decide (e.address = address)

/-- The live fields of a non-FREE entry at their values after a reset; a RETIRING entry is FREE then (R34, R35). The same
values make the stored form of an entry (R179). -/
def Entry.atReset (e : Entry) : Entry :=
  match e.state with
  | .free => Entry.freed
  | .retiring => Entry.freed
  | .provisional | .active | .suspended =>
      { e with health := .unknown, miss := 0, unreachable := false, setLevel := 0, confirmed := none, sub := 0 }

/-! ### The lines as other blocks see them -/

/-- The line is neither FAULTED nor DISABLED. -/
def lineUsable (s : State) (l : Fin 4) : Bool := s.settings.enables.get l && !(s.lines.get l).faulted

/-- The line states (R132). -/
inductive LineState where
  | disabled
  | idle
  | active
  | faulted
deriving DecidableEq, Repr

/-- Whether some non-FREE entry holds the line (R133). -/
def lineHeld (s : State) (l : Fin 4) : Bool :=
  s.roster.slots.cells.any fun e => decide (e.state ≠ .free) && decide (e.line = l)

/-- The line state (R133). -/
def lineState (s : State) (l : Fin 4) : LineState :=
  if s.settings.enables.get l = false then .disabled
  else if (s.lines.get l).faulted then .faulted
  else if lineHeld s l || !(s.lines.get l).queue.isEmpty then .active
  else .idle

/-- A line unit changed. -/
def modifyLine (l : Fin 4) (f : LineUnit → LineUnit) (s : State) : State := { s with lines := s.lines.modify l f }

/-- A portal's live record changed. -/
def modifyPortal (p : Fin 4) (f : PortalLive → PortalLive) (s : State) : State :=
  { s with portals := s.portals.modify p f }

/-- A portal's configuration changed. -/
def modifyPortalConfig (p : Fin 4) (f : PortalConfig → PortalConfig) (s : State) : State :=
  { s with settings := { s.settings with portals := s.settings.portals.modify p f } }

/-! ### Taking and refusing (R162 to R165) -/

/-- The status of a response (R163, R185). -/
inductive Status where
  | done
  | format
  | range
  | state
  | conflict
  | full
  | busy
  | window
deriving DecidableEq, Repr

/-- The status codes (R185). -/
def statusCode : Status → Byte
  | .done => 0#8
  | .format => 1#8
  | .range => 2#8
  | .state => 3#8
  | .conflict => 4#8
  | .full => 5#8
  | .busy => 6#8
  | .window => 7#8

/-- What an owner answers to a command: a refusal, or the state the command leaves with the data of its response and the
effect that waits for the response to end (R162, R170). -/
inductive Verdict where
  | refused (why : Status)
  | taken (after : State) (data : List Byte) (held : Held)

/-- The store is WRITING, and refuses the commands of 8.9 with BUSY. -/
def storeWriting (s : State) : Bool :=
  match s.store.state with
  | .writing _ => true
  | .idle | .failed => false

/-- The transfer window closed by the taking of a command that does not match it (R27). -/
def closeWindow (s : State) : State := { s with roster := { s.roster with window := none } }

/-- A command taken: it closes an open window, has its effect, and is answered DONE with data (R27, R162). -/
def done (effect : State → State) (data : State → List Byte) (s : State) : Verdict :=
  .taken (effect (closeWindow s)) (data s) .nothing

/-- The sum of bytes modulo 256. -/
def byteSum (bytes : List Byte) : Byte := bytes.foldl (· + ·) 0#8

/-- The response with a status and data: address character 128 plus the station held, length, status, data, check (R165). -/
def responseOf (station : Nat) (status : Status) (data : List Byte) : Response :=
  let counted := BitVec.ofNat 8 (data.length + 2) :: statusCode status :: data
  ⟨BitVec.ofNat 8 (128 + station), counted ++ [-(byteSum counted)]⟩

/-- The receive state replaced; the gap timer runs in LENGTH and BODY alone (R160). -/
def withReceive (r : Receive) (s : State) : State :=
  let gap : Timer := match r with
    | .length _ => .running Config.gapCharacterTimes
    | .body _ _ _ => .running Config.gapCharacterTimes
    | .asleep => .idle
    | .turnaround _ _ => .idle
    | .sending _ _ => .idle
  { s with link := ⟨r, gap⟩ }

/-- A command delivered to its owner at its message's check character. A station-addressed one is answered and the receive
state becomes TURNAROUND (R162); a broadcast one is never answered and the link unit sleeps (R168). A refused command
changes no other state. -/
def deliver (dest : Dest) (owner : State → Verdict) (s : State) : State :=
  match dest, owner s with
  | .station, .refused why => withReceive (.turnaround (responseOf s.settings.station why []) .nothing) s
  | .station, .taken after data held =>
      withReceive (.turnaround (responseOf s.settings.station .done data) held) after
  | .broadcast, .refused _ => withReceive .asleep s
  | .broadcast, .taken after _ _ => withReceive .asleep after

/-- An event or command reaches a part that is powered; without its supply the part does nothing (POWER_LOSS, log 16). A physical input
level is outside the part and moves all the same (movedInput). -/
def whenPowered (f : State → State) (s : State) : State := if s.powered then f s else s

end Sys2Proof.Machine
end

