-- ==== Sys2Proof/Machine/Drive.lean ====
section
/-! DEFINITION. What the other blocks ask of a line unit and what a line unit starts by itself: the frames (R129, R130,
R188) and the levels a frame drives, the level queue (R134 to R139), and the choice of the next transaction (R140, R141). -/

namespace Sys2Proof.Machine

open Sys2Proof

/-! ### Frames (12.5, R188) -/

/-- The bit that makes the count of 1s over the given bits and itself even. -/
def parityBit {n : Nat} (bits : BitVec n) : Bool := (List.range n).foldl (fun acc i => acc ^^ bits.getLsbD i) false

/-- A forward frame's 24 cells: start, target, command, argument, spare, parity (12.5). -/
def forwardFrame (target : BitVec 7) (command : BitVec 3) (argument : BitVec 10) : BitVec 24 :=
  let covered : BitVec 22 := target ++ command ++ argument ++ 0#2
  1#1 ++ covered ++ BitVec.ofBool (parityBit covered)

/-- The command cells of a transaction's forward frame: a release is sent as LEVEL and a probe as STATUS (R129). -/
def commandOf : TransactionKind → BitVec 3
  | .level _ => 1#3
  | .release _ => 1#3
  | .status => 2#3
  | .probe => 2#3
  | .ident => 3#3

/-- The argument: the level code for LEVEL, 0 for the others (R129). -/
def argumentOf : TransactionKind → BitVec 10
  | .level code => BitVec.ofNat 10 code
  | .release _ => 0#10
  | .status => 0#10
  | .probe => 0#10
  | .ident => 0#10

/-- The all-call target (R129). -/
def allCall : BitVec 7 := 127#7

/-- The forward frame of a transaction: to its entry's address, or to all for a probe (R129). -/
def frameOf (kind : TransactionKind) (target : Option (Fin 256 × Fin 64)) : BitVec 24 :=
  match target with
  | some (_, address) => forwardFrame (BitVec.ofNat 7 address.val) (commandOf kind) (argumentOf kind)
  | none => forwardFrame allCall (commandOf kind) (argumentOf kind)

/-- The level driven in a half-bit of a forward frame, counted from 0: each of the 24 cells, the start cell first, changes level at its
middle, a 1 from low to high and a 0 from high to low; from half 48 on the line is held high for the stop (12.5). -/
def levelDriven (frame : BitVec 24) (half : Nat) : Bool :=
  if half < 48 then
    let cell := frame.getLsbD (23 - half / 2)
    if half % 2 = 0 then !cell else cell
  else true

/-- Some level read back, one for each half-bit so far, differs from the level driven (R146, R188). -/
def readBackDiffers (frame : BitVec 24) (levels : List Bool) : Bool :=
  levels.zipIdx.any fun (level, half) => decide (level ≠ levelDriven frame half)

/-- The fault flags a driver reports (R129, R130). -/
structure DriverFlags where
  lampFail : Bool
  gearFail : Bool
  thermal : Bool
deriving DecidableEq, Repr

/-- The reply kind that answers a command: LEVEL_ACK, STATUS_REPLY or ACK (R130). A probe gets no reply. -/
def answerOf : TransactionKind → BitVec 2
  | .level _ => 1#2
  | .release _ => 1#2
  | .status => 2#2
  | .ident => 3#2
  | .probe => 0#2

/-- A backward frame decoded: the flags and the level in force of a valid reply, `none` where it is GARBLED by a Manchester,
framing or parity violation, by a kind of 0 or by a kind that does not answer the command (R130, R188). -/
def decodeReply (kind : TransactionKind) (r : BackwardSignal) : Option (DriverFlags × Nat) :=
  let cells := r.secondHalf
  let manchester := r.firstHalf ^^^ r.secondHalf = BitVec.allOnes 17
  let framing := cells.getLsbD 16 = true ∧ r.stopHigh = true
  let parity := parityBit (cells.extractLsb' 0 16) = false
  let replyKind := cells.extractLsb' 14 2
  if manchester ∧ framing ∧ parity ∧ replyKind ≠ 0#2 ∧ replyKind = answerOf kind then
    some (⟨cells.getLsbD 13, cells.getLsbD 12, cells.getLsbD 11⟩, (cells.extractLsb' 1 10).toNat)
  else none

/-! ### The level queue (R134 to R139) -/

/-- Whether the queue holds a request for the address. -/
def queuedFor (address : Fin 64) (queue : List Request) : Bool := queue.any fun r => decide (r.address = address)

/-- What a request for an address does to the one already queued for it (R135 to R137): a level replaces a level or an
IDENT, a release replaces both and stands against every other, and an IDENT changes nothing. -/
def replaceRequest (new old : Request) : Request :=
  match new.kind, old.kind with
  | .level _, .release _ => old
  | .level _, .level _ => new
  | .level _, .ident => new
  | .release _, _ => new
  | .ident, _ => old

/-- A request arriving at the queue: in place of the one queued for its address, or at the tail (R134). -/
def enqueue (new : Request) (queue : List Request) : List Request :=
  if queuedFor new.address queue then
    queue.map fun old => if old.address = new.address then replaceRequest new old else old
  else queue ++ [new]

/-- A request handed to the line unit of a line; one that arrives while the line is FAULTED or DISABLED is discarded (R134). -/
def hand (l : Fin 4) (r : Request) (s : State) : State :=
  if lineUsable s l then modifyLine l (fun u => { u with queue := enqueue r u.queue }) s else s

/-- A level request (R135). -/
def handLevel (l : Fin 4) (slot : Fin 256) (address : Fin 64) (code : Nat) (s : State) : State :=
  hand l ⟨.level code, slot, address⟩ s

/-- A withdrawal: the request queued for an address is removed, whatever its kind (R138). -/
def withdraw (l : Fin 4) (address : Fin 64) (s : State) : State :=
  modifyLine l (fun u => { u with queue := u.queue.filter fun r => decide (r.address ≠ address) }) s

/-! ### The next transaction (R140, R141) -/

/-- A transaction started: its forward frame is driven. -/
def startTransaction (kind : TransactionKind) (target : Option (Fin 256 × Fin 64)) (u : LineUnit) : LineUnit :=
  { u with inFlight := some ⟨kind, target, .forward, false⟩, driving := some (frameOf kind target) }

/-- The transaction of a queued request: the attempt number is the attempts made plus 1 (R144). -/
def kindOfRequest : RequestKind → TransactionKind
  | .level code => .level code
  | .release made => .release (made + 1)
  | .ident => .ident

/-- The entries a line unit polls (R141). -/
def pollable (l : Fin 4) (e : Entry) : Bool :=
  decide (e.line = l) && (decide (e.state = .provisional) || decide (e.state = .active) || decide (e.state = .retiring))

/-- The search for the next poll: from the cursor upward, wrapping from 255 to 0, each slot once (R141). -/
def nextPoll (s : State) (l : Fin 4) : Option (Fin 256 × Entry) :=
  let slots := s.roster.slots.indexed
  let cursor := (s.lines.get l).cursor.val
  (slots.drop cursor ++ slots.take cursor).find? fun (_, e) => pollable l e

/-- A poll started: the cursor moves to the slot after the one polled (R141). -/
def startPoll (l : Fin 4) (s : State) : State :=
  match nextPoll s l with
  | some (slot, e) =>
      modifyLine l (fun u => { startTransaction .status (some (slot, e.address)) u with cursor := slot + 1 }) s
  | none => s

/-- A line is quiet while it is enabled, not FAULTED, and has no transaction in flight (R140) or being aborted (R131). -/
def quiet (s : State) (l : Fin 4) : Bool :=
  lineUsable s l && (s.lines.get l).inFlight.isNone && !(s.lines.get l).aborting

/-- A quiet line considers its next transaction (R140): the head of the queue while the run count is below 8, otherwise a
poll; a queued request leaves the queue as its frame starts (R139). A poll aborted below the run count 8, with a request queued since, is
thus sent after that request: R140 is followed over the closing sentence of R147 (log 24). -/
def consider (l : Fin 4) (s : State) : State :=
  if quiet s l then
    match (s.lines.get l).queue with
    | [] => startPoll l s
    | r :: rest =>
        if (s.lines.get l).run < Config.runLimit then
          modifyLine l (fun u => startTransaction (kindOfRequest r.kind) (some (r.slot, r.address))
            { u with queue := rest }) s
        else startPoll l s
  else s

/-- Every line considers, in an event that may have given any of them something to send (R140, log 10). -/
def considerAll (s : State) : State := consider 3 (consider 2 (consider 1 (consider 0 s)))

/-! ### Emptying a line (R16, R22, R149, R153) -/

/-- A release ended, in whichever way: it frees the RETIRING entry that the slot still holds at that line and address, and
changes nothing otherwise (R9, R22). -/
def releaseEnds (l : Fin 4) (slot : Fin 256) (address : Fin 64) (s : State) : State :=
  let e := entryAt s slot
  if e.state = .retiring ∧ e.line = l ∧ e.address = address then freeSlot slot s else s

/-- The releases a queue holds are reported discarded. -/
def discardReleases (l : Fin 4) (queue : List Request) (s : State) : State :=
  queue.foldl (fun acc r => match r.kind with
    | .release _ => releaseEnds l r.slot r.address acc
    | .level _ => acc
    | .ident => acc) s

/-- Every non-FREE entry of the line has its confirmed level set to NONE (R16). -/
def clearConfirmed (l : Fin 4) (s : State) : State :=
  { s with roster := { s.roster with slots := s.roster.slots.map fun e =>
      if e.state ≠ .free ∧ e.line = l then { e with confirmed := none } else e } }

end Sys2Proof.Machine
end

