-- ==== Sys2Proof/Machine/Stages.lean ====
section
/-! DEFINITION. Stage requirements and the slew (chapter 4: R81 to R89), as functions of the portal's values. -/

namespace Sys2Proof.Machine

open Sys2Proof

/-- Each value lowered to the one before it, as that one is left: no stage above the stage outside it (R82, R89). -/
def clampAfter (outer : Nat) : List Nat → List Nat
  | [] => []
  | x :: rest => min x outer :: clampAfter (min x outer) rest

/-- The inward clamp over the stages in use, from S1 inward (R82, R89). -/
def clampInward : List Nat → List Nat
  | [] => []
  | x :: rest => x :: clampAfter x rest

/-- The stage configurations in use, S0 first (R77). -/
def stagesInUse (c : PortalConfig) : List StageConfig := c.stages.cells.take c.stageCount

/-- The requirements of the stages in use (R81 to R83): the larger of the stage's share of the applied Lth and its floor,
clamped inward; every one 0 for a CLOSED portal. -/
def requirements (mode : Rounding) (c : PortalConfig) (appliedLth : Nat) : List Nat :=
  match c.role with
  | .closed => (stagesInUse c).map fun _ => 0
  | .entrance | .exit =>
      clampInward ((stagesInUse c).map fun st => max (divRound mode (appliedLth * st.f) 1000) st.floor)

/-- A rise toward a requirement above Q (R85). -/
def rise (mode : Rounding) (up deadBand : Nat) (jump : Bool) (requirement q : Nat) : Nat :=
  if jump then requirement
  else if (requirement - q) * 1000 ≤ deadBand * q then q
  else min requirement (q + max 1 (divRound mode (q * up) 1000))

/-- A fall toward a requirement below Q (R86). -/
def fall (mode : Rounding) (dn deadBand fallHold requirement q : Nat) : Nat :=
  if (q - requirement) * 1000 ≤ deadBand * q then q
  else if 0 < fallHold then q
  else max requirement (q - max 1 (divRound mode (q * dn) 1000))

/-- One stage slewed: a rise, a fall or neither (R84). -/
def slew (mode : Rounding) (c : PortalConfig) (jump : Bool) (fallHold requirement q : Nat) : Nat :=
  if q < requirement then rise mode c.up c.deadBand jump requirement q
  else if requirement < q then fall mode c.dn c.deadBand fallHold requirement q
  else q

/-- The stages' commanded luminances after the slew of each and the post-slew clamp (R84, R89). -/
def slewAll (mode : Rounding) (c : PortalConfig) (jump : Bool) (fallHold : Nat) (required before : List Nat) :
    List Nat :=
  clampInward (List.zipWith (slew mode c jump fallHold) required before)

end Sys2Proof.Machine
end

