-- ==== Sys2Proof/Machine/Output.lean ====
section
/-! DEFINITION. From commanded luminance to level requests: force and limit as the override unit forms them (R119),
capacity (R97, R98), output fraction (R100 to R105), level codes (R106, R107), set levels and requests (R109 to R112),
and the output recomputation (R113). -/

namespace Sys2Proof.Machine

open Sys2Proof

/-! ### Force and limit (R118, R119) -/

/-- An input is asserted while its accepted level is the one its polarity names; NONE is never asserted (R118). -/
def assertedLevel (polarity : Polarity) (accepted : Option InputLevel) : Bool :=
  match polarity, accepted with
  | .activeEnergised, some .energised => true
  | .activeEnergised, some .deenergised => false
  | .activeDeenergised, some .deenergised => true
  | .activeDeenergised, some .energised => false
  | _, none => false

/-- Whether a discrete input is asserted (R118). -/
def inputAsserted (s : State) (i : Fin 6) : Bool :=
  assertedLevel (s.settings.inputs.get i).polarity (s.overrides.inputs.get i).accepted

/-- Some LEVEL input of the function whose mask includes the portal is asserted (R119). -/
def levelInputActs (s : State) (function : InputFunction) (p : Fin 4) : Bool :=
  (List.finRange 6).any fun i =>
    let r := s.settings.inputs.get i
    decide (r.function = function) && decide (r.sense = .level) && r.mask.getLsbD p.val && inputAsserted s i

/-- Force is active for a portal (R119). -/
def forceActive (s : State) (p : Fin 4) : Bool := s.overrides.forceLatch.getLsbD p.val || levelInputActs s .force p

/-- The power limit is active for a portal (R119). -/
def limitActive (s : State) (p : Fin 4) : Bool := s.overrides.limitLatch.getLsbD p.val || levelInputActs s .limit p

/-- The freeze flag of a portal (R123). -/
def frozen (s : State) (p : Fin 4) : Bool := s.overrides.freeze.getLsbD p.val

/-! ### Capacity (R6, R95, R97, R98) -/

/-- The maintenance factor of an age: that of the last row whose threshold is at or below it (R95). -/
def maintenanceFactor (rows : List MaintenanceRow) (age : Nat) : Nat :=
  rows.foldl (fun found r => if r.threshold ≤ age then r.factor else found) 0

/-- The healths that count (R6). -/
def Health.sound : Health → Bool
  | .ok | .derated | .unknown => true
  | .lampFail | .gearFail | .lost => false

/-- An entry is counted (R6). -/
def counted (s : State) (e : Entry) : Bool :=
  decide (e.state = .active) && e.pin.isNone && e.health.sound &&
    decide (e.stage.val < (s.settings.portals.get e.portal).stageCount) && lineUsable s e.line

/-- The effective contribution of a counted entry (R97). -/
def effective (c : Compute) (rows : List MaintenanceRow) (e : Entry) : Nat :=
  let mf := maintenanceFactor rows e.age
  if e.health = .derated then divRound c.mode (e.q * mf * c.thermal) 1000000 else divRound c.mode (e.q * mf) 1000

/-- The capacity of stage j of a portal: the sum over the entries counted for it (R98). -/
def stageCapacity (s : State) (p : Fin 4) (j : Fin 8) : Nat :=
  ((s.roster.slots.cells.filter fun e => decide (e.portal = p) && decide (e.stage = j) && counted s e).map
    (effective s.settings.compute s.settings.maintenance)).sum

/-- The stage position is in use (R77). -/
def inUse (s : State) (p : Fin 4) (j : Fin 8) : Bool := decide (j.val < (s.settings.portals.get p).stageCount)

/-- The capacity of each stage in use, written to its record (R98). -/
def capacityPass (p : Fin 4) (s : State) : State :=
  let fresh (j : Fin 8) (st : Stage) : Stage :=
    if inUse s p j then { st with capacity := stageCapacity s p j } else st
  modifyPortal p (fun live => { live with stages := live.stages.mapIdx fresh }) s

/-! ### The output fraction (R100 to R105) -/

/-- u, shortfall and flags before force and limit: from Q and C (R100, R101), raised to u_min (R102). -/
def fractionFromDemand (mode : Rounding) (uMin q c : Nat) : Nat × Nat × StageFlags :=
  if q = 0 then (0, 0, StageFlags.clear)
  else if c = 0 then (10000, q, { StageFlags.clear with dark := true })
  else
    let raw := divRound mode (q * 10000) c
    if 10000 < raw then (10000, q - c, { StageFlags.clear with short := true })
    else if 0 < raw ∧ raw < uMin then (uMin, 0, { StageFlags.clear with minHeld := true })
    else (raw, 0, StageFlags.clear)

/-- A stage's output computation, step by step (R100 to R104), written whole (R105). -/
def stageOutput (mode : Rounding) (uMin ceiling : Nat) (force limit : Bool) (st : Stage) : Stage :=
  let (u₀, shortfall, flags₀) := fractionFromDemand mode uMin st.q st.capacity
  let u₁ := if force then 10000 else u₀
  let flags₁ := if force then { flags₀ with forced := true, minHeld := false } else flags₀
  let cut := limit && decide (ceiling < u₁)
  let u₂ := if cut then ceiling else u₁
  { st with u := u₂, shortfall := shortfall, flags := { flags₁ with limited := cut } }

/-- The output computation of each stage in use, with P_DARK and P_SHORT reported where a stage gains DARK or SHORT
(R105). -/
def outputPass (p : Fin 4) (s : State) : State :=
  let c := s.settings.compute
  let before := (s.portals.get p).stages
  let after := before.mapIdx fun j st =>
    if inUse s p j then
      stageOutput c.mode (s.settings.portals.get p).uMin c.ceiling (forceActive s p) (limitActive s p) st
    else st
  let gains (flag : StageFlags → Bool) : Bool :=
    (List.finRange 8).any fun j => inUse s p j && flag (after.get j).flags && !flag (before.get j).flags
  reportIf (gains (·.short)) (.pShort p)
    (reportIf (gains (·.dark)) (.pDark p) (modifyPortal p (fun live => { live with stages := after }) s))

/-! ### Level codes and set levels (R106 to R112) -/

/-- The code of an output fraction on a curve (R107). -/
def codeOf (mode : Rounding) (curve : Curve) (u : Nat) : Nat :=
  let i := u / 625
  if h : i < 16 then
    let low := curve.get ⟨i, by omega⟩
    let high := curve.get ⟨i + 1, by omega⟩
    let code := low + divRound mode ((high - low) * (u - 625 * i)) 625
    if 0 < u ∧ code = 0 then 1 else code
  else curve.get 16

/-- The set level of an ACTIVE entry of a portal, decided by its health, pin and stage (R109 to R111). A LOST entry keeps the set level
it had (R13, R110), an unpinned one on a stage not in use too, although R3 and R78 give every ACTIVE unpinned entry there the level 0:
the model's reading, log 26. -/
def decidedLevel (s : State) (e : Entry) : Nat :=
  match e.health, e.pin with
  | .lampFail, _ => 0
  | .gearFail, _ => 0
  | .lost, _ => e.setLevel
  | _, some code => code
  | _, none =>
      if inUse s e.portal e.stage then
        codeOf s.settings.compute.mode (s.settings.curves.get e.cls) ((s.portals.get e.portal).stages.get e.stage).u
      else 0

/-- The entries a portal's update or recomputation acts on (R109). -/
def drivenBy (p : Fin 4) (e : Entry) : Bool := decide (e.portal = p) && decide (e.state = .active)

/-- The conditions for a level request, on an entry whose set level is written (R112). -/
def wantsRequest (s : State) (p : Fin 4) (e : Entry) : Bool :=
  decide (e.health ≠ .lost) && decide (e.confirmed ≠ some e.setLevel) && lineUsable s e.line &&
    (!frozen s p || forceActive s p || e.pin.isSome)

/-- The set level of each ACTIVE entry of the portal written (R109 to R111). -/
def writeLevels (p : Fin 4) (s : State) : State :=
  let leveled (e : Entry) : Entry := if drivenBy p e then { e with setLevel := decidedLevel s e } else e
  { s with roster := { s.roster with slots := s.roster.slots.map leveled } }

/-- The requests of one update or recomputation, handed in increasing slot order (R112). -/
def handRequests (p : Fin 4) (s : State) : State :=
  s.roster.slots.indexed.foldl (fun acc (slot, e) =>
    if drivenBy p e && wantsRequest s p e then handLevel e.line slot e.address e.setLevel acc else acc) s

/-- Set levels and requests of a portal's entries (R109 to R112). -/
def levelPass (p : Fin 4) (s : State) : State := handRequests p (writeLevels p s)

/-! ### The output recomputation (R113) -/

/-- The output recomputation of a portal; where no update has run since the last reset it computes capacity first. -/
def recompute (p : Fin 4) (s : State) : State :=
  levelPass p (outputPass p (if (s.portals.get p).updated then s else capacityPass p s))

end Sys2Proof.Machine
end

