-- ==== Sys2Proof/Machine/Wire.lean ====
section
/-! DEFINITION. The layouts of response data: codes (R185), fields (R187) and records (12.3, 12.4). -/

namespace Sys2Proof.Machine

open Sys2Proof

/-! ### Codes (R185) -/

/-- A yes/no field, or an asserted one (R185). -/
def boolByte (b : Bool) : List Byte := [if b then 1#8 else 0#8]

def entryStateCode : EntryState → Nat
  | .free => 0
  | .provisional => 1
  | .active => 2
  | .suspended => 3
  | .retiring => 4

def healthCode : Health → Nat
  | .unknown => 0
  | .ok => 1
  | .derated => 2
  | .lampFail => 3
  | .gearFail => 4
  | .lost => 5

def roleCode : Role → Nat
  | .entrance => 0
  | .exit => 1
  | .closed => 2

def controlStateCode : ControlState → Nat
  | .start => 0
  | .auto => 1
  | .hold => 2
  | .fallback => 3
  | .manual => 4

def trendCode : Trend → Nat
  | .flat => 0
  | .rising => 1
  | .falling => 2

def readingStatusCode : ReadingStatus → Nat
  | .none => 0
  | .valid => 1
  | .saturated => 2
  | .invalid => 3
  | .implausible => 4

def lineStateCode : LineState → Nat
  | .disabled => 0
  | .idle => 1
  | .active => 2
  | .faulted => 3

def storeStateCode : StoreState → Nat
  | .idle => 0
  | .writing _ => 1
  | .failed => 2

def roundingCode : Rounding → Nat
  | .nearest => 0
  | .towardZero => 1
  | .away => 2

def functionCode : InputFunction → Nat
  | .none => 0
  | .force => 1
  | .limit => 2

def senseCode : Sense → Nat
  | .level => 0
  | .edge => 1

def polarityCode : Polarity → Nat
  | .activeEnergised => 0
  | .activeDeenergised => 1

def inputLevelCode : InputLevel → Nat
  | .deenergised => 0
  | .energised => 1

def acceptedLevelCode : Option InputLevel → Nat
  | some level => inputLevelCode level
  | none => 2

def baudCode : Baud → Nat
  | .b9600 => 0
  | .b19200 => 1
  | .b38400 => 2
  | .b57600 => 3

def transactionKindCode : TransactionKind → Nat
  | .level _ => 0
  | .release _ => 1
  | .ident => 2
  | .status => 3
  | .probe => 4

def phaseCode : Phase → Nat
  | .forward => 0
  | .window => 1
  | .backward => 2
  | .gap => 3

/-! ### Optional fields: absent is every bit set (R187) -/

def channelByte (c : Option (Fin 8)) : List Byte := to1 ((c.map (·.val)).getD 0xFF)

def luminanceBytes (l : Option Nat) : List Byte := to3 (l.getD 0xFFFFFF)

def slotBytes (k : Option (Fin 256)) : List Byte := to2 ((k.map (·.val)).getD 0xFFFF)

def lastSeenBytes (n : Option (BitVec 8)) : List Byte := to2 ((n.map (·.toNat)).getD 0xFFFF)

/-! ### Records (12.4) -/

/-- The entry record of a slot (12.4). 12.4 sends a confirmed level of NONE as 0 and does not say what the code bits of an absent pin
are: they carry no value, and so are read-as-zero, 0 (R185; the model's inference, log 28). -/
def entryRecordBytes (slot : Fin 256) (e : Entry) : List Byte :=
  let pinGroup : BitVec 16 := match e.pin with
    | some code => 1#1 ++ 0#5 ++ BitVec.ofNat 10 code
    | none => 0#16
  let levelGroup : BitVec 16 := 0#3 ++ BitVec.ofNat 3 e.miss ++ BitVec.ofNat 10 e.setLevel
  let confirmedGroup : BitVec 16 := match e.confirmed with
    | some code => 1#1 ++ 0#5 ++ BitVec.ofNat 10 code
    | none => 0#16
  to1 slot.val
    ++ [0#1 ++ BitVec.ofBool e.unreachable ++ BitVec.ofNat 3 (healthCode e.health)
          ++ BitVec.ofNat 3 (entryStateCode e.state),
        BitVec.ofNat 2 e.line.val ++ BitVec.ofNat 6 e.address.val,
        0#1 ++ BitVec.ofNat 2 e.portal.val ++ BitVec.ofNat 3 e.stage.val ++ BitVec.ofNat 2 e.cls.val]
    ++ to2 e.q ++ to2 e.age ++ to2 pinGroup.toNat ++ to2 levelGroup.toNat ++ to2 confirmedGroup.toNat

/-- The channel record (12.4), with the scan settings in force and whether a scan is in progress (R51). -/
def channelRecordBytes (s : State) (ch : Fin 8) : List Byte :=
  let cal := s.settings.channels.get ch
  let r := s.scanner.readings.get ch
  to2 cal.offset ++ to2 cal.gain ++ to3 cal.lowLimit ++ to3 cal.highLimit ++ luminanceBytes r.luminance
    ++ to1 (readingStatusCode r.status) ++ [r.number] ++ (s.settings.scanList.cells.map channelByte).flatten
    ++ to2 s.settings.scanInterval ++ boolByte s.scanner.scan.isSome

/-- A cause: its kind and its channel, 0xFF for NONE and NO_CHANNEL (12.4). -/
def causeBytes : Cause → List Byte
  | .none => [0#8, 0xFF#8]
  | .invalid ch => 1#8 :: to1 ch.val
  | .implausible ch => 2#8 :: to1 ch.val
  | .stale ch => 3#8 :: to1 ch.val
  | .noChannel => [4#8, 0xFF#8]

/-- Last seen and staleness of a position: read-as-zero where unassigned, but last seen 0xFFFF (12.4, log 17). -/
def sightBytes (assigned : Option (Fin 8)) (sight : Sight) : List Byte :=
  match assigned with
  | some _ => lastSeenBytes sight.lastSeen ++ to1 sight.staleness
  | none => to2 0xFFFF ++ to1 0

/-- The flags of a stage record (12.4). -/
def stageFlagsByte (f : StageFlags) : Byte :=
  0#3 ++ BitVec.ofBool f.forced ++ BitVec.ofBool f.minHeld ++ BitVec.ofBool f.limited ++ BitVec.ofBool f.dark
    ++ BitVec.ofBool f.short

/-- A stage record of 20 bytes (12.4). -/
def stageRecordBytes (c : StageConfig) (st : Stage) : List Byte :=
  to2 c.f ++ to3 c.floor ++ to3 st.requirement ++ to3 st.q ++ to3 st.capacity ++ to2 st.u ++ to3 st.shortfall
    ++ [stageFlagsByte st.flags]

/-- The 30 bytes of configuration, beginning with the role (R55, 12.4). -/
def portalConfigBytes (c : PortalConfig) : List Byte :=
  to1 (roleCode c.role) ++ channelByte c.primary ++ channelByte c.secondary ++ to1 c.k ++ to3 c.lthMin ++ to3 c.lthCap
    ++ to3 c.lthFallback ++ to2 c.w ++ to2 c.up ++ to2 c.dn ++ to1 c.deadBand ++ to1 c.fallHoldLength
    ++ to1 c.staleLimit ++ to1 c.holdLimit ++ to1 c.recoverCount ++ to2 c.disagreement ++ to2 c.uMin
    ++ to2 c.updateInterval

/-- The 30 bytes of live fields (R56, 12.4). -/
def portalLiveBytes (c : PortalConfig) (live : PortalLive) : List Byte :=
  to1 (controlStateCode live.control) ++ to3 live.filtered ++ boolByte live.seeded ++ to1 (trendCode live.trend)
    ++ to1 live.fallHold ++ to1 live.holdCount ++ to1 live.goodCount ++ causeBytes live.cause
    ++ causeBytes live.priorCause ++ to3 live.manualLth ++ boolByte live.disagreeing ++ boolByte live.riseJump
    ++ to3 live.controlLth ++ to3 live.appliedLth ++ sightBytes c.primary live.primarySight
    ++ sightBytes c.secondary live.secondarySight

/-- The portal record, 61 + 20 × n bytes (12.4): configuration, live fields, n, and the stage records in use. -/
def portalRecordBytes (c : PortalConfig) (live : PortalLive) : List Byte :=
  portalConfigBytes c ++ portalLiveBytes c live ++ to1 c.stageCount
    ++ (((c.stages.cells.zip live.stages.cells).take c.stageCount).map fun x => stageRecordBytes x.1 x.2).flatten

/-- The maintenance table in the room of 8 rows, unused rows read-as-zero (12.3). -/
def maintenanceBytes (rows : List MaintenanceRow) : List Byte :=
  let used := (rows.map fun r => to2 r.threshold ++ to2 r.factor).flatten
  to1 rows.length ++ used ++ List.replicate (32 - used.length) 0#8

/-- READ_TABLES' data: a curve, the maintenance table and the compute settings (R114, 12.3). -/
def tablesBytes (curve : Curve) (rows : List MaintenanceRow) (c : Compute) : List Byte :=
  (curve.cells.map to2).flatten ++ maintenanceBytes rows ++ to1 (roundingCode c.mode) ++ to2 c.thermal
    ++ to2 c.ceiling

/-- READ_LINE's data (R154, 12.3): kind 0xFF with slot, address and phase read-as-zero when no transaction is in flight, slot
0xFFFF and address 127 for a probe. -/
def lineBytes (s : State) (l : Fin 4) : List Byte :=
  let u := s.lines.get l
  let flight := match u.inFlight with
    | none => to1 0xFF ++ to2 0 ++ to1 0 ++ to1 0
    | some t =>
        to1 (transactionKindCode t.kind) ++ slotBytes (t.target.map (·.1))
          ++ to1 ((t.target.map (·.2.val)).getD 127) ++ to1 (phaseCode t.phase)
  boolByte (s.settings.enables.get l) ++ to1 s.settings.missLimit ++ to1 (lineStateCode (lineState s l))
    ++ to1 u.queue.length ++ to1 u.contentions ++ to1 u.run ++ to2 u.cursor.val ++ flight

/-- One input's part of READ_INPUTS' data (R126, 12.3). The candidate of an idle debounce carries no
value, and so is read-as-zero: 0 (R185; the model's inference, log 11). -/
def inputBytes (s : State) (i : Fin 6) : List Byte :=
  let r := s.settings.inputs.get i
  let live := s.overrides.inputs.get i
  let candidate := match live.debounce with
    | some d => inputLevelCode d.candidate
    | none => 0
  to1 (functionCode r.function) ++ [0#4 ++ r.mask] ++ to1 (senseCode r.sense) ++ to1 (polarityCode r.polarity)
    ++ to1 (inputLevelCode live.physical) ++ to1 (acceptedLevelCode live.accepted)
    ++ boolByte (inputAsserted s i) ++ boolByte live.debounce.isSome ++ to1 candidate

/-- One portal's part of READ_INPUTS' data (R126, 12.3). -/
def portalConditionBytes (s : State) (p : Fin 4) : List Byte :=
  boolByte (s.overrides.forceLatch.getLsbD p.val) ++ boolByte (s.overrides.limitLatch.getLsbD p.val)
    ++ boolByte (frozen s p) ++ boolByte (forceActive s p) ++ boolByte (limitActive s p)

/-- READ_INPUTS' data (R126, 12.3). -/
def inputsBytes (s : State) : List Byte :=
  ((List.finRange 6).map (inputBytes s)).flatten ++ ((List.finRange 4).map (portalConditionBytes s)).flatten

/-- The status summary, 38 bytes (R177, 12.4). -/
def statusBytes (s : State) : List Byte :=
  maskBytes6 s.events.flags ++ maskBytes6 s.settings.mask ++ boolByte (decide (s.events.output = .released))
    ++ to1 (storeStateCode s.store.state)
    ++ ((List.finRange 4).map fun p =>
        to1 (roleCode (s.settings.portals.get p).role) ++ to1 (controlStateCode (s.portals.get p).control)
          ++ boolByte (forceActive s p) ++ boolByte (limitActive s p) ++ boolByte (frozen s p)).flatten
    ++ ((List.finRange 4).map fun l => to1 (lineStateCode (lineState s l))).flatten

end Sys2Proof.Machine
end

