-- ==== Sys2Proof/Machine/Start.lean ====
section
/-! DEFINITION. The image and the resets (chapter 10): what the image's check covers, what a full reset loads, and the live
state that a full reset and a RESTART leave (R34, R35, R54, R76, R92, R116, R128, R156, R171, R178, R183, R184). -/

namespace Sys2Proof.Machine

open Sys2Proof

/-! ### The image (R179, R180) -/

/-- The stored form of working memory: RETIRING entries as FREE, no live state (R179). -/
def snapshotOf (s : State) : Image := ⟨s.settings, s.roster.slots.map Entry.atReset⟩

/-- A portal's stored fields, as bytes. -/
def portalImageBytes (c : PortalConfig) : List Byte :=
  portalConfigBytes c ++ to1 c.stageCount ++ (c.stages.cells.map fun st => to2 st.f ++ to3 st.floor).flatten

/-- The bytes of an image (R179). Their layout is internal to the store and seen through no message (log 15). -/
def imageBytes (i : Image) : List Byte :=
  let g := i.settings
  (g.channels.cells.map fun c => to2 c.offset ++ to2 c.gain ++ to3 c.lowLimit ++ to3 c.highLimit).flatten
    ++ (g.scanList.cells.map channelByte).flatten ++ to2 g.scanInterval
    ++ (g.portals.cells.map portalImageBytes).flatten
    ++ (g.curves.cells.map fun c => (c.cells.map to2).flatten).flatten
    ++ maintenanceBytes g.maintenance
    ++ to1 (roundingCode g.compute.mode) ++ to2 g.compute.thermal ++ to2 g.compute.ceiling
    ++ (g.inputs.cells.map fun r =>
        to1 (functionCode r.function) ++ [0#4 ++ r.mask] ++ to1 (senseCode r.sense)
          ++ to1 (polarityCode r.polarity)).flatten
    ++ maskBytes6 g.mask ++ (g.enables.cells.map boolByte).flatten ++ to1 g.missLimit ++ to1 g.station
    ++ to1 (baudCode g.baud)
    ++ (i.slots.indexed.map fun (slot, e) => entryRecordBytes slot e).flatten

/-- The 16-bit sum of every byte of an image (R179). -/
def imageSum (i : Image) : BitVec 16 := (imageBytes i).foldl (fun acc b => acc + b.setWidth 16) 0#16

/-- An image is good when its completion record is complete and its check is correct: the sum of all its bytes and the check is
0 modulo 65,536 (R179, R180). -/
def imageGood (st : Store) : Bool := st.complete && decide (imageSum st.image + st.check = 0#16)

/-! ### The state after a reset -/

/-- A portal's live fields after a reset, from its configuration and the rounding mode in force (R56, R76, R92, R116). -/
def portalAtReset (mode : Rounding) (c : PortalConfig) : PortalLive :=
  let applied := match c.role with
    | .entrance => c.lthFallback
    | .exit => 0
    | .closed => 0
  let required := requirements mode c applied
  let stage (j : Fin 8) : Stage :=
    if j.val < c.stageCount then Stage.initial (required.getD j.val 0) else Stage.unused
  { PortalLive.initial with
    controlLth := c.lthFallback
    appliedLth := applied
    stages := Tbl.tabulate stage
    timer := .running c.updateInterval }

/-- Every block reinitialised over the settings, the slots and the flags given: the live state of each takes the reset value
its own chapter gives, and each line considers its first transaction (R156). The physical levels of the inputs are outside
the part and stay; the non-volatile image stays. -/
def reinitialise (settings : Settings) (slots : Tbl Entry 256) (flags : BitVec 48) (s : State) : State :=
  considerAll
    { powered := true
      settings := settings
      roster := ⟨slots, 0xFFFFFFFF#32, none, .running Config.ageTickMs⟩
      scanner := ⟨Tbl.fill 8 Reading.initial, none, .running settings.scanInterval⟩
      portals := settings.portals.map (portalAtReset settings.compute.mode)
      overrides := ⟨s.overrides.inputs.map fun i => InputLive.initial i.physical, 0#4, 0#4, 0#4⟩
      lines := s.lines.map fun _ => LineUnit.initial
      link := ⟨.asleep, .idle⟩
      events := ⟨flags, faultOutputOf flags settings.mask⟩
      store := { s.store with state := .idle }
      pending := s.pending }

/-- A full reset: the image is judged; a good one is loaded, and with a bad one every block takes the factory defaults, every
slot is FREE and STORE_BAD is reported (R183). -/
def fullReset (s : State) : State :=
  if imageGood s.store then
    reinitialise s.store.image.settings (s.store.image.slots.map Entry.atReset) 0#48 s
  else
    reinitialise Settings.defaults (Tbl.fill 256 Entry.freed) (flagBit .storeBad) s

/-- What RESTART does at the end of its response: as a full reset, but the settings and slots of working memory are kept and
no image is judged (R184). -/
def restartNow (s : State) : State :=
  reinitialise s.settings (s.roster.slots.map Entry.atReset) 0#48 s

/-- FULL_RESET: a power-on or an assertion of the RESET pin (R183). It also cuts off a store write (R182). -/
def execFullReset (s : State) : Host.Outcome State Fault Refusal := .next (fullReset s)

/-- POWER_LOSS: the part stops. A store write in progress is cut off and its image left bad, what the link and the lines were
sending ends, and the fault output is released (R174, R180; log 16). The store state is IDLE from here to the next full reset, which
makes it so (R180), whatever it was, FAILED too: the spec names none for that time, the model's choice, log 27. -/
def execPowerLoss (s : State) : Host.Outcome State Fault Refusal :=
  let cut (u : LineUnit) : LineUnit := { u with inFlight := none, aborting := false, driving := none }
  .next
    { s with
      powered := false
      link := ⟨.asleep, .idle⟩
      lines := s.lines.map cut
      events := { s.events with output := .released }
      store := { s.store with state := .idle } }

end Sys2Proof.Machine
end

