-- ==== Sys2Proof/Machine/Message.lean ====
section
/-! DEFINITION. A link command as a whole message (log 1): how its characters meet the receive state, and the effects that
wait for a response to end (R159, R166, R167, R170). -/

namespace Sys2Proof.Machine

open Sys2Proof

/-- The settings of a SET_LINK written (R170). -/
def writeLink (station : Nat) (baud : Baud) (s : State) : State :=
  { s with settings := { s.settings with station := station, baud := baud } }

/-- The effect held back until a response has ended or been cancelled, and the receive state ASLEEP after it (R166, R170). -/
def completeHeld (held : Held) (s : State) : State :=
  match held with
  | .nothing => withReceive .asleep s
  | .setLink station baud => withReceive .asleep (writeLink station baud s)
  | .restart => restartNow s

/-- A whole message, its characters received one after another with no gap, its command dispatched at the check character.
While SENDING the receiver does not read it (R166). In TURNAROUND its address character cancels the response (R167); where a
SET_LINK or a RESTART waits for that response, the effect takes place then and the message is abandoned (R170, R171). In
every other receive state it is dispatched (R159, R160, R162, R168). -/
def wholeMessage (dest : Dest) (owner : State → Verdict) (s : State) : State :=
  match s.link.receive with
  | .sending _ _ => s
  | .turnaround _ (.setLink station baud) => completeHeld (.setLink station baud) s
  | .turnaround _ .restart => completeHeld .restart s
  | .turnaround _ .nothing => deliver dest owner s
  | .asleep => deliver dest owner s
  | .length _ => deliver dest owner s
  | .body _ _ _ => deliver dest owner s

/-- The step of a link command put in the queue whole. -/
def command (dest : Dest) (owner : State → Verdict) (s : State) : Host.Outcome State Fault Refusal :=
  .next (whenPowered (wholeMessage dest owner) s)

end Sys2Proof.Machine
end

