-- ==== Sys2Proof/Machine/EventCommands.lean ====
section
/-! DEFINITION. The commands of the event unit (R175 to R177). -/

namespace Sys2Proof.Machine

open Sys2Proof

/-- SET_MASK: BUSY, then the mask whole and the output formed afresh (R176). -/
def takeSetMask (mask : BitVec 48) (s : State) : Verdict :=
  if storeWriting s then .refused .busy
  else
    done (fun s => withFlags s.events.flags { s with settings := { s.settings with mask := mask } }) (fun _ => []) s

def execSetMask (mask : BitVec 48) (s : State) : Host.Outcome State Fault Refusal := command .station (takeSetMask mask) s

/-- CLEAR_EVENTS: each flag whose position is set is cleared; the data carry the flags as the command left them (R175). -/
def takeClearEvents (mask : BitVec 48) (s : State) : Verdict :=
  done (fun s => withFlags (s.events.flags &&& ~~~mask) s) (fun s => maskBytes6 (s.events.flags &&& ~~~mask)) s

def execClearEvents (mask : BitVec 48) (s : State) : Host.Outcome State Fault Refusal :=
  command .station (takeClearEvents mask) s

/-- READ_STATUS: the status summary (R177). -/
def takeReadStatus (s : State) : Verdict := done id statusBytes s

def execReadStatus (s : State) : Host.Outcome State Fault Refusal := command .station takeReadStatus s

end Sys2Proof.Machine
end

