-- ==== Sys2Proof/Machine/Operands.lean ====
section
/-! DEFINITION. What a message's fields may hold: identifiers, optional fields, enumerated codes and position masks
(R186), each `none` where the value lies outside its range. -/

namespace Sys2Proof.Machine

open Sys2Proof

/-- An identifier from 0 to k − 1. -/
def idOf (k n : Nat) : Option (Fin k) := if h : n < k then some ⟨n, h⟩ else none

/-- An optional channel or scan-list position: 0xFF is none, or DISABLED (R186). -/
def channelFieldOf (n : Nat) : Option (Option (Fin 8)) := if n = 0xFF then some none else (idOf 8 n).map some

/-- An optional pin: 0xFFFF is absent, a code is at most 1023 (R186, R7). -/
def pinFieldOf (n : Nat) : Option (Option Nat) :=
  if n = 0xFFFF then some none else if n ≤ 1023 then some (some n) else none

/-- A contribution q is 1 to 9,999 (R2). -/
def qInRange (q : Nat) : Bool := decide (1 ≤ q) && decide (q ≤ 9999)

/-- The role codes (R185). -/
def roleOf : Nat → Option Role
  | 0 => some .entrance
  | 1 => some .exit
  | 2 => some .closed
  | _ => none

/-- The rounding mode codes (R185). -/
def roundingOf : Nat → Option Rounding
  | 0 => some .nearest
  | 1 => some .towardZero
  | 2 => some .away
  | _ => none

/-- The window direction codes (R185). -/
def directionOf : Nat → Option Direction
  | 0 => some .read
  | 1 => some .write
  | _ => none

/-- The input function codes (R185). -/
def functionOf : Nat → Option InputFunction
  | 0 => some .none
  | 1 => some .force
  | 2 => some .limit
  | _ => none

/-- The sense codes (R185). -/
def senseOf : Nat → Option Sense
  | 0 => some .level
  | 1 => some .edge
  | _ => none

/-- The polarity codes (R185). -/
def polarityOf : Nat → Option Polarity
  | 0 => some .activeEnergised
  | 1 => some .activeDeenergised
  | _ => none

/-- The baud rate codes (R185). -/
def baudOf : Nat → Option Baud
  | 0 => some .b9600
  | 1 => some .b19200
  | 2 => some .b38400
  | 3 => some .b57600
  | _ => none

/-- An input number is 1 to 6 (R125). -/
def inputOf (n : Nat) : Option (Fin 6) := if n = 0 then none else idOf 6 (n - 1)

/-- The positions beyond the first four of a mask byte are must-be-zero (R186). -/
def fourPositions (m : BitVec 8) : Option (BitVec 4) :=
  if m.extractLsb' 4 4 = 0#4 then some (m.extractLsb' 0 4) else none

/-- Whether every element passes `f` into an `Option`, and the results. -/
def allSome {α β : Type} (f : α → Option β) : List α → Option (List β)
  | [] => some []
  | a :: rest =>
      match f a, allSome f rest with
      | some b, some bs => some (b :: bs)
      | _, _ => none

/-- A list of exactly `n` records as a table. -/
def tableOf {α : Type} (n : Nat) (l : List α) : Option (Tbl α n) := if h : l.length = n then some ⟨l, h⟩ else none

end Sys2Proof.Machine
end

