-- ==== Sys2Proof/Machine/Reports.lean ====
section
/-! DEFINITION. What a line unit's report does to the entry it names (1.4: R9 to R16). -/

namespace Sys2Proof.Machine

open Sys2Proof

/-- The kinds of frame whose outcome is reported with flags or as a bare acknowledgement (1.4); releases are apart. -/
inductive ReportKind where
  | level
  | status
  | ident
deriving DecidableEq, Repr

/-- The health a reply's flags give, in their order of priority (R10). -/
def healthOf (f : DriverFlags) : Health :=
  if f.gearFail then .gearFail else if f.lampFail then .lampFail else if f.thermal then .derated else .ok

/-- LAMP_FAIL or GEAR_FAIL. -/
def Health.failed : Health → Bool
  | .lampFail | .gearFail => true
  | .unknown | .ok | .derated | .lost => false

/-- A report is applied only where the slot holds a non-FREE entry with the line and address it names (R9). -/
def reportMatches (l : Fin 4) (address : Fin 64) (e : Entry) : Bool :=
  decide (e.state ≠ .free) && decide (e.line = l) && decide (e.address = address)

/-- A failure transition: to LAMP_FAIL or GEAR_FAIL from a health that is neither (R14). -/
def failing (before after : Health) : Bool := after.failed && !before.failed

/-- A health other than those two after one of them: the entry leaves failure (R14), judged by the health held just before the reply, so
that an entry LOST in between does not leave it (log 23). -/
def leavingFailure (before after : Health) : Bool := before.failed && !after.failed

/-- The entry as a valid reply to a STATUS or LEVEL frame leaves it (R10, R11, R14, R16). `health` is the derived one and
`acknowledged` the level in force where the frame was a LEVEL. -/
def replied (health : Health) (acknowledged : Option Nat) (e : Entry) : Entry :=
  let verified := e.state = .provisional
  let state := if verified then EntryState.active else e.state
  let takesPin := verified ∧ !health.failed ∨
    leavingFailure e.health health ∧ (state = .active ∨ state = .suspended)
  { e with
    state := state
    health := health
    miss := 0
    unreachable := if verified then false else e.unreachable
    setLevel := if failing e.health health then 0 else if takesPin then e.pin.getD e.setLevel else e.setLevel
    confirmed := match acknowledged with
      | some level => some level
      | none => e.confirmed }

/-- The level the roster unit hands on for an entry that a reply left ACTIVE: 0 at a failure transition, the pin's code at the
verification of a pinned entry and at its leaving failure, and none otherwise (R11, R14). -/
def replyRequest (health : Health) (before : Entry) : Option Nat :=
  if before.state = .provisional ∨ before.state = .active then
    if failing before.health health then some 0
    else if (before.state = .provisional ∧ !health.failed) ∨ leavingFailure before.health health then before.pin
    else none
  else none

/-- A level request handed where there is one to hand. -/
def handOptional (l : Fin 4) (slot : Fin 256) (address : Fin 64) (code : Option Nat) (s : State) : State :=
  match code with
  | some c => handLevel l slot address c s
  | none => s

/-- A valid reply to a STATUS or LEVEL frame, applied to the entry in its slot (R10, R11, R14, R15, R16). -/
def applyFlags (l : Fin 4) (slot : Fin 256) (address : Fin 64) (f : DriverFlags) (acknowledged : Option Nat)
    (s : State) : State :=
  let e := entryAt s slot
  let health := healthOf f
  let written := putEntry slot (replied health acknowledged e) s
  let marked := markIf (decide (e.state = .provisional) || decide (health ≠ e.health)) slot written
  let recovered := reportIf (decide (e.health = .lost)) .entryRecovered marked
  let failed := reportIf (failing e.health health) .entryFail recovered
  handOptional l slot address (replyRequest health e) failed

/-- A valid reply applied under R9: with its flags for STATUS and LEVEL; a bare acknowledgement to an IDENT sets the miss
count to 0 and nothing else (R10, R11). -/
def applyReply (kind : ReportKind) (l : Fin 4) (slot : Fin 256) (address : Fin 64) (f : DriverFlags) (level : Nat)
    (s : State) : State :=
  if reportMatches l address (entryAt s slot) then
    match kind with
    | .level => applyFlags l slot address f (some level) s
    | .status => applyFlags l slot address f none s
    | .ident => putEntry slot { entryAt s slot with miss := 0 } s
  else s

/-- A miss count raised by 1, unless it stands at the miss limit (R12, R13). -/
def missed (limit count : Nat) : Nat := if count < limit then count + 1 else count

/-- A miss applied under R9 (R12, R13). -/
def applyMiss (l : Fin 4) (slot : Fin 256) (address : Fin 64) (s : State) : State :=
  let e := entryAt s slot
  let limit := s.settings.missLimit
  let count := missed limit e.miss
  if reportMatches l address e then
    if e.state = .provisional then
      if limit ≤ count ∧ e.unreachable = false then
        report .entryUnreachable (putEntry slot { e with miss := count, unreachable := true } s)
      else putEntry slot { e with miss := count } s
    else if limit ≤ count ∧ e.health ≠ .lost then
      report .entryLost (mark slot (putEntry slot { e with miss := count, health := .lost } s))
    else putEntry slot { e with miss := count } s
  else s

/-- An entry under a changed miss limit (R13): a LOST or unreachable entry's count becomes the limit, any other's is lowered
to it where above. -/
def underMissLimit (limit : Nat) (e : Entry) : Entry :=
  if e.state = .free then e
  else if e.health = .lost ∨ e.unreachable = true then { e with miss := limit }
  else { e with miss := min e.miss limit }

end Sys2Proof.Machine
end

