-- ==== Sys2Proof/Machine/Lines.lean ====
section
/-! DEFINITION. The line units' events (R129 to R131, R140 to R151) and commands (R152 to R154). -/

namespace Sys2Proof.Machine

open Sys2Proof

/-! ### The end of a forward frame (R131, R140, R146) -/

/-- The run count after a forward frame completed without contention (R140). -/
def runAfter (kind : TransactionKind) (run : Nat) : Nat :=
  match kind with
  | .level _ => min Config.runLimit (run + 1)
  | .release _ => min Config.runLimit (run + 1)
  | .ident => min Config.runLimit (run + 1)
  | .status => 0
  | .probe => run

/-- What follows the forward frame: a reply window, or for a probe the quiet that ends it (R131, log 7). -/
def phaseAfterForward (kind : TransactionKind) : Phase :=
  match kind with
  | .probe => .gap
  | .level _ => .window
  | .release _ => .window
  | .ident => .window
  | .status => .window

/-- A line unit whose forward frame reached its end with no difference: the contention count becomes 0 (R146, log 8). -/
def frameEnded (t : Transaction) (u : LineUnit) : LineUnit :=
  { u with
    inFlight := some { t with phase := phaseAfterForward t.kind }
    driving := none
    contentions := 0
    run := runAfter t.kind u.run }

/-- FORWARD_FRAME_END: a forward frame reaches its end without contention (R146). -/
def execForwardFrameEnd (line : Fin 4) (s : State) : Host.Outcome State Fault Refusal :=
  .next (whenPowered (fun s =>
    match (s.lines.get line).inFlight with
    | some t => if t.phase = .forward then modifyLine line (frameEnded t) s else s
    | none => s) s)

/-! ### The first edge of a backward frame (R130) -/

/-- The transaction at the first edge of activity, by its time from the end of the forward frame (R130): before the reply window the
reply is GARBLED, within it the backward frame begins, after it the activity is not read. Only the first edge counts. -/
def edgeSeen (micros : Nat) (t : Transaction) : Transaction :=
  if t.garbled then t
  else if micros < Config.windowOpensMicros then { t with garbled := true }
  else if micros ≤ Config.windowClosesMicros then { t with phase := .backward }
  else t

/-- BACKWARD_FRAME_START: the first edge of activity after a forward frame (R130). -/
def execBackwardFrameStart (line : Fin 4) (micros : Nat) (s : State) : Host.Outcome State Fault Refusal :=
  .next (whenPowered (fun s =>
    match (s.lines.get line).inFlight with
    | some t =>
        if t.phase = .window then modifyLine line (fun u => { u with inFlight := some (edgeSeen micros t) }) s else s
    | none => s) s)

/-! ### Outcomes (R131, R142 to R144) -/

/-- The outcome of a transaction addressed to an entry: a valid reply with its flags and level, or a miss (7.5). -/
inductive Reply where
  | valid (flags : DriverFlags) (level : Nat)
  | miss
deriving DecidableEq, Repr

/-- The outcome formed at its moment: at the end of a backward frame from what was received, at the close of the window a miss, for no
reply and for early activity alike (R130, R131). `none`: this is not the moment of an outcome. -/
def outcomeOf (t : Transaction) (received : Option BackwardSignal) : Option Reply :=
  match t.phase, received with
  | .backward, some signal =>
      match decodeReply t.kind signal with
      | some (flags, level) => some (.valid flags level)
      | none => some .miss
  | .window, none => some .miss
  | .backward, none => none
  | .window, some _ => none
  | .forward, _ => none
  | .gap, _ => none

/-- A release's outcome (R144): acknowledged, or given up at the last attempt, it ends; a miss before that puts it back at the tail
unless a request for the address is queued. -/
def releaseOutcome (l : Fin 4) (slot : Fin 256) (address : Fin 64) (attempt : Nat) (reply : Reply) (s : State) :
    State :=
  match reply with
  | .valid _ _ => releaseEnds l slot address s
  | .miss =>
      if Config.releaseAttempts ≤ attempt then releaseEnds l slot address s
      else if queuedFor address (s.lines.get l).queue then s
      else modifyLine l (fun u => { u with queue := u.queue ++ [⟨.release attempt, slot, address⟩] }) s

/-- A reply or a miss reported to the roster unit (R142, R143). -/
def reportReply (kind : ReportKind) (l : Fin 4) (slot : Fin 256) (address : Fin 64) (reply : Reply) (s : State) :
    State :=
  match reply with
  | .valid flags level => applyReply kind l slot address flags level s
  | .miss => applyMiss l slot address s

/-- The outcome of a transaction taken to the roster unit, by its kind (R142 to R144). A probe has none. -/
def outcomeEffect (l : Fin 4) (t : Transaction) (reply : Reply) (s : State) : State :=
  match t.target, t.kind with
  | some (slot, address), .level _ => reportReply .level l slot address reply s
  | some (slot, address), .status => reportReply .status l slot address reply s
  | some (slot, address), .ident => reportReply .ident l slot address reply s
  | some (slot, address), .release attempt => releaseOutcome l slot address attempt reply s
  | some _, .probe => s
  | none, _ => s

/-- REPLY_OUTCOME: the outcome is formed and reported, and the gap follows (R131). -/
def execReplyOutcome (line : Fin 4) (received : Option BackwardSignal) (s : State) :
    Host.Outcome State Fault Refusal :=
  .next (whenPowered (fun s =>
    match (s.lines.get line).inFlight with
    | some t =>
        match outcomeOf t received with
        | some reply =>
            outcomeEffect line t reply
              (modifyLine line (fun u => { u with inFlight := some { t with phase := .gap } }) s)
        | none => s
    | none => s) s)

/-! ### The end of a transaction (R131, R140) -/

/-- Whether the line's transaction can end: it is in its gap, or it was aborted (R131). A probe ends by PROBE_END. -/
def transactionEnding (u : LineUnit) : Bool :=
  match u.inFlight with
  | some t => decide (t.phase = .gap) && decide (t.kind ≠ .probe)
  | none => u.aborting

/-- TRANSACTION_END: the transaction ends and the line unit considers its next (R131, R140). -/
def execTransactionEnd (line : Fin 4) (s : State) : Host.Outcome State Fault Refusal :=
  .next (whenPowered (fun s =>
    if transactionEnding (s.lines.get line) then
      consider line (modifyLine line (fun u => { u with inFlight := none, aborting := false }) s)
    else s) s)

/-! ### Contention (R146 to R149, R151) -/

/-- The transaction cut off: nothing is driven, none is in flight, and the line waits for the transaction's end (R147, log 6). -/
def aborted (u : LineUnit) : LineUnit := { u with inFlight := none, driving := none, aborting := true }

/-- The request of an aborted queued frame, with its level and its attempts made as they were (R147). -/
def requestOf (kind : TransactionKind) (slot : Fin 256) (address : Fin 64) : Option Request :=
  match kind with
  | .level code => some ⟨.level code, slot, address⟩
  | .release attempt => some ⟨.release (attempt - 1), slot, address⟩
  | .ident => some ⟨.ident, slot, address⟩
  | .status => none
  | .probe => none

/-- The entry is in the state the request's kind needs, on this line and at this address (R147). -/
def stillWanted (l : Fin 4) (r : Request) (e : Entry) : Bool :=
  reportMatches l r.address e &&
    match r.kind with
    | .level _ => decide (e.state = .active)
    | .ident => decide (e.state = .active)
    | .release _ => decide (e.state = .retiring)

/-- What was in flight at an abort that does not fault the line: a queued frame goes back to the head, or is dropped where its entry no
longer wants it or a request for its address is queued; a poll sets the cursor back (R147, R148). -/
def putBack (l : Fin 4) (t : Transaction) (s : State) : State :=
  match t.target with
  | none => s
  | some (slot, address) =>
      match requestOf t.kind slot address with
      | some r =>
          if stillWanted l r (entryAt s slot) && !queuedFor address (s.lines.get l).queue then
            modifyLine l (fun u => { u with queue := r :: u.queue }) s
          else s
      | none => modifyLine l (fun u => { u with cursor := slot }) s

/-- An aborted RELEASE is reported discarded where its line is faulted or disabled (R149, R153). -/
def discardInFlight (l : Fin 4) (t : Transaction) (s : State) : State :=
  match t.target, t.kind with
  | some (slot, address), .release _ => releaseEnds l slot address s
  | _, _ => s

/-- The fourth contention in a row faults the line (R149). -/
def faultLine (l : Fin 4) (t : Transaction) (s : State) : State :=
  let queue := (s.lines.get l).queue
  let stopped := modifyLine l (fun u =>
    { aborted u with
      faulted := true
      queue := []
      contentions := Config.contentionLimit
      run := 0
      faultWait := .running Config.faultWaitMs }) s
  report (.lineFault l) (clearConfirmed l (discardReleases l queue (discardInFlight l t stopped)))

/-- A contention during a forward frame (R146, R147, R149, R151). A probe's leaves the count as it stands and starts the fault wait
anew. -/
def contend (l : Fin 4) (t : Transaction) (s : State) : State :=
  let u := s.lines.get l
  if u.faulted then modifyLine l (fun u => { aborted u with faultWait := .running Config.faultWaitMs }) s
  else if Config.contentionLimit ≤ u.contentions + 1 then faultLine l t s
  else putBack l t (modifyLine l (fun u => { aborted u with contentions := u.contentions + 1 }) s)

/-- The event of a forward frame's read-back (R146, R188): CONTENTION where some level read so far, one for each half-bit, differs from
the level driven; FORWARD_FRAME_END where the stop is over (`ended`) with both halves of every cell and the stop, in one level or more
(log 25), read and none differing; none while the frame goes on, or while nothing is driven. -/
def readBackEvent (line : Fin 4) (u : LineUnit) (levels : List Bool) (ended : Bool) : Option Instr :=
  match u.driving with
  | none => none
  | some frame =>
      if readBackDiffers frame levels then some (.contention line)
      else if ended && decide (48 < levels.length) then some (.forwardFrameEnd line)
      else none

/-- CONTENTION: a read-back mismatch during a forward frame (R146). -/
def execContention (line : Fin 4) (s : State) : Host.Outcome State Fault Refusal :=
  .next (whenPowered (fun s =>
    match (s.lines.get line).inFlight with
    | some t => if t.phase = .forward then contend line t s else s
    | none => s) s)

/-! ### The fault wait and the probe (R150, R151) -/

/-- FAULT_WAIT_EXPIRY: an all-call STATUS probe is sent; the line stays FAULTED (R150). -/
def execFaultWaitExpiry (line : Fin 4) (s : State) : Host.Outcome State Fault Refusal :=
  .next (whenPowered (fun s =>
    let u := s.lines.get line
    if u.faulted && u.faultWait.isRunning then
      modifyLine line (fun u => { startTransaction .probe none u with faultWait := .idle, aborting := false }) s
    else s) s)

/-- A probe in its quiet, its forward frame over without contention, is clean (R151). -/
def cleanProbe (u : LineUnit) : Bool :=
  match u.inFlight with
  | some t => u.faulted && decide (t.kind = .probe) && decide (t.phase = .gap)
  | none => false

/-- PROBE_END: at the end of a clean probe's quiet the fault ends and the line considers its next transaction (R151). -/
def execProbeEnd (line : Fin 4) (s : State) : Host.Outcome State Fault Refusal :=
  .next (whenPowered (fun s =>
    if cleanProbe (s.lines.get line) then
      consider line (modifyLine line (fun u =>
        { u with faulted := false, contentions := 0, faultWait := .idle, inFlight := none }) s)
    else s) s)

/-! ### SET_LINES and READ_LINE (R152 to R154) -/

/-- A line disabled: its transaction abandoned, a RELEASE whose outcome was not yet formed and every queued RELEASE discarded, its
confirmed levels NONE, its counts 0 and its fault over; the poll cursor is kept (R153). -/
def disableLine (l : Fin 4) (s : State) : State :=
  let u := s.lines.get l
  let stopped := modifyLine l (fun u =>
    { u with
      faulted := false
      queue := []
      contentions := 0
      run := 0
      inFlight := none
      aborting := false
      driving := none
      faultWait := .idle }) s
  let abandoned := match u.inFlight with
    | some t => if t.phase = .gap then stopped else discardInFlight l t stopped
    | none => stopped
  clearConfirmed l (discardReleases l u.queue abandoned)

/-- A line whose enable changes is disabled or enabled; an enabled one considers its first transaction (R152, R153). -/
def switchLine (enables : BitVec 4) (l : Fin 4) (s : State) : State :=
  let new := enables.getLsbD l.val
  let written := { s with settings := { s.settings with enables := s.settings.enables.set l new } }
  if s.settings.enables.get l = new then s
  else if new then consider l written
  else disableLine l written

/-- A changed miss limit is applied to every non-FREE entry in the same event (R145, R13). -/
def changeMissLimit (limit : Nat) (s : State) : State :=
  if s.settings.missLimit = limit then s
  else
    { s with
      settings := { s.settings with missLimit := limit }
      roster := { s.roster with slots := s.roster.slots.map (underMissLimit limit) } }

/-- The effect of a taken SET_LINES (R152). -/
def setLinesAt (enables : BitVec 4) (limit : Nat) (s : State) : State :=
  switchLine enables 3 (switchLine enables 2 (switchLine enables 1 (switchLine enables 0 (changeMissLimit limit s))))

/-- SET_LINES: FORMAT, RANGE, BUSY, then enables and miss limit (R152). -/
def takeSetLines (enables : BitVec 8) (missLimit : Nat) (s : State) : Verdict :=
  match fourPositions enables with
  | none => .refused .format
  | some lines =>
      if missLimit < 1 ∨ 7 < missLimit then .refused .range
      else if storeWriting s then .refused .busy
      else done (setLinesAt lines missLimit) (fun _ => []) s

def execSetLines (enables : BitVec 8) (missLimit : Nat) (s : State) : Host.Outcome State Fault Refusal :=
  command .station (takeSetLines enables missLimit) s

/-- READ_LINE: the line's settings, state, counts and transaction (R154). -/
def takeReadLine (line : Nat) (s : State) : Verdict :=
  match idOf 4 line with
  | none => .refused .range
  | some l => done id (fun s => lineBytes s l) s

def execReadLine (line : Nat) (s : State) : Host.Outcome State Fault Refusal := command .station (takeReadLine line) s

end Sys2Proof.Machine
end

