-- ==== Sys2Proof/Machine/OverrideCommands.lean ====
section
/-! DEFINITION. The override unit (chapter 6): debounce (R118), latches (R120), what a change of force or limit does (R121), and its
commands (R122 to R126). -/

namespace Sys2Proof.Machine

open Sys2Proof

/-! ### A change of force or limit (R121) -/

/-- Force became active for the portal. -/
def forceRaised (before after : State) (p : Fin 4) : Bool := forceActive after p && !forceActive before p

/-- Force or limit is not the same for the portal after an event as before it. -/
def conditionsChanged (before after : State) (p : Fin 4) : Bool :=
  decide (forceActive before p ≠ forceActive after p) || decide (limitActive before p ≠ limitActive after p)

/-- One portal's part in an event that may change the conditions: FORCE_ON where force became active, and one recomputation where
either changed (R121). -/
def settlePortal (before after : State) (p : Fin 4) (s : State) : State :=
  let reported := reportIf (forceRaised before after p) .forceOn s
  if conditionsChanged before after p then recompute p reported else reported

/-- The conditions formed afresh for every portal after an event's own change, P0 first (R119, R121, log 9). -/
def settleConditions (before after : State) : State :=
  considerAll (settlePortal before after 3 (settlePortal before after 2 (settlePortal before after 1
    (settlePortal before after 0 after))))

/-- The override unit changed, with the conditions formed afresh. -/
def changeOverrides (f : Overrides → Overrides) (s : State) : State :=
  settleConditions s { s with overrides := f s.overrides }

/-! ### Inputs (R118, R120) -/

/-- The debounce of an input as its physical level moves (R118). -/
def debounced (level : InputLevel) (i : InputLive) : Option Debounce :=
  if i.accepted = some level then none
  else
    match i.debounce with
    | none => some ⟨level, .running Config.debounceMs⟩
    | some d => if d.candidate = level then some d else some ⟨level, .running Config.debounceMs⟩

/-- An input's live state replaced. -/
def withInput (input : Fin 6) (i : InputLive) (s : State) : State :=
  { s with overrides := { s.overrides with inputs := s.overrides.inputs.set input i } }

/-- The live state of an input whose physical level has moved. In a part with its supply a debounce begins, is cancelled, or starts
again (R118); without it only the level moves, outside the part, and the next full reset begins its debounce toward the level that it
then finds (R128, log 16). -/
def movedInput (powered : Bool) (level : InputLevel) (i : InputLive) : InputLive :=
  { i with physical := level, debounce := if powered then debounced level i else i.debounce }

/-- INPUT_LEVEL_CHANGE: a physical level moves (R118, R128); a level event without a change does nothing (log 2). -/
def execInputLevelChange (input : Fin 6) (level : InputLevel) (s : State) : Host.Outcome State Fault Refusal :=
  let i := s.overrides.inputs.get input
  .next (if i.physical = level then s else withInput input (movedInput s.powered level i) s)

/-- The latches an input's asserting change sets, by its record (R120). -/
def edgeLatches (r : InputRecord) (o : Overrides) : Overrides :=
  match r.sense, r.function with
  | .edge, .force => { o with forceLatch := o.forceLatch ||| r.mask }
  | .edge, .limit => { o with limitLatch := o.limitLatch ||| r.mask }
  | .edge, .none => o
  | .level, _ => o

/-- A debounce expired with a candidate: the accepted level becomes it, and an asserting change of an EDGE input sets its latches
(R118, R120). -/
def accept (input : Fin 6) (r : InputRecord) (i : InputLive) (candidate : InputLevel) (o : Overrides) : Overrides :=
  let accepted := { o with inputs := o.inputs.set input { i with accepted := some candidate, debounce := none } }
  if assertedLevel r.polarity (some candidate) && !assertedLevel r.polarity i.accepted then edgeLatches r accepted
  else accepted

/-- DEBOUNCE_EXPIRY: the accepted level becomes the candidate, with its changes of force and limit in the same event (R118 to R121). -/
def execDebounceExpiry (input : Fin 6) (s : State) : Host.Outcome State Fault Refusal :=
  .next (whenPowered (fun s =>
    let i := s.overrides.inputs.get input
    match i.debounce with
    | some d =>
        if d.timer.isRunning then changeOverrides (accept input (s.settings.inputs.get input) i d.candidate) s
        else s
    | none => s) s)

/-! ### The six mask commands (R122, R123) -/

/-- A mask command: FORMAT where a must-be-zero position is set, otherwise its effect on the portals of its mask. -/
def takeMask (effect : BitVec 4 → State → State) (mask : BitVec 8) (s : State) : Verdict :=
  match fourPositions mask with
  | none => .refused .format
  | some portals => done (effect portals) (fun _ => []) s

/-- FORCE sets force latches (R122). -/
def takeForce (mask : BitVec 8) (s : State) : Verdict :=
  takeMask (fun m => changeOverrides fun o => { o with forceLatch := o.forceLatch ||| m }) mask s

def execForce (dest : Dest) (mask : BitVec 8) (s : State) : Host.Outcome State Fault Refusal :=
  command dest (takeForce mask) s

/-- UNFORCE clears force latches (R122). -/
def takeUnforce (mask : BitVec 8) (s : State) : Verdict :=
  takeMask (fun m => changeOverrides fun o => { o with forceLatch := o.forceLatch &&& ~~~m }) mask s

def execUnforce (dest : Dest) (mask : BitVec 8) (s : State) : Host.Outcome State Fault Refusal :=
  command dest (takeUnforce mask) s

/-- LIMIT sets limit latches (R122). -/
def takeLimit (mask : BitVec 8) (s : State) : Verdict :=
  takeMask (fun m => changeOverrides fun o => { o with limitLatch := o.limitLatch ||| m }) mask s

def execLimit (dest : Dest) (mask : BitVec 8) (s : State) : Host.Outcome State Fault Refusal :=
  command dest (takeLimit mask) s

/-- UNLIMIT clears limit latches (R122). -/
def takeUnlimit (mask : BitVec 8) (s : State) : Verdict :=
  takeMask (fun m => changeOverrides fun o => { o with limitLatch := o.limitLatch &&& ~~~m }) mask s

def execUnlimit (dest : Dest) (mask : BitVec 8) (s : State) : Host.Outcome State Fault Refusal :=
  command dest (takeUnlimit mask) s

/-- FREEZE sets freeze flags, with no recomputation (R123). -/
def takeFreeze (mask : BitVec 8) (s : State) : Verdict :=
  takeMask (fun m s => { s with overrides := { s.overrides with freeze := s.overrides.freeze ||| m } }) mask s

def execFreeze (dest : Dest) (mask : BitVec 8) (s : State) : Host.Outcome State Fault Refusal :=
  command dest (takeFreeze mask) s

/-- UNFREEZE clears freeze flags, with no recomputation (R123, R124). -/
def takeUnfreeze (mask : BitVec 8) (s : State) : Verdict :=
  takeMask (fun m s => { s with overrides := { s.overrides with freeze := s.overrides.freeze &&& ~~~m } }) mask s

def execUnfreeze (dest : Dest) (mask : BitVec 8) (s : State) : Host.Outcome State Fault Refusal :=
  command dest (takeUnfreeze mask) s

/-! ### SET_INPUT and READ_INPUTS (R125, R126) -/

/-- SET_INPUT: FORMAT, RANGE, BUSY, then the record whole; force and limit are formed afresh under it, and no latch changes (R125). -/
def takeSetInput (input function : Nat) (mask : BitVec 8) (sense polarity : Nat) (s : State) : Verdict :=
  match fourPositions mask with
  | none => .refused .format
  | some portals =>
      match inputOf input, functionOf function, senseOf sense, polarityOf polarity with
      | some i, some f, some se, some po =>
          if storeWriting s then .refused .busy
          else
            done (fun s => settleConditions s
              { s with settings := { s.settings with inputs := s.settings.inputs.set i ⟨f, portals, se, po⟩ } })
              (fun _ => []) s
      | _, _, _, _ => .refused .range

def execSetInput (input function : Nat) (mask : BitVec 8) (sense polarity : Nat) (s : State) :
    Host.Outcome State Fault Refusal :=
  command .station (takeSetInput input function mask sense polarity) s

/-- READ_INPUTS: the inputs and each portal's latches and conditions (R126). -/
def takeReadInputs (s : State) : Verdict :=
  done id inputsBytes s

def execReadInputs (s : State) : Host.Outcome State Fault Refusal := command .station takeReadInputs s

end Sys2Proof.Machine
end

