-- ==== Sys2Proof/Machine/PortalCommands.lean ====
section
/-! DEFINITION. The commands of the portal controllers (R69 to R75, R79, R80). -/

namespace Sys2Proof.Machine

open Sys2Proof

/-! ### SET_PORTAL (R73) -/

/-- The two channels are different where both are present (R55). -/
def differentChannels (primary secondary : Option (Fin 8)) : Bool :=
  match primary, secondary with
  | some a, some b => decide (a ≠ b)
  | _, _ => true

/-- Every field but the channels lies within its range of R55, with Lth_min and Lth_fallback at most Lth_cap (R73). -/
def portalFieldsInRange (c : PortalFields) : Bool :=
  decide (1 ≤ c.k ∧ c.k ≤ 200) && decide (c.lthMin ≤ Config.topLuminance) && decide (c.lthMin ≤ c.lthCap)
    && decide (c.lthCap ≤ Config.topLuminance) && decide (c.lthFallback ≤ c.lthCap) && decide (1 ≤ c.w ∧ c.w ≤ 256)
    && decide (1 ≤ c.up ∧ c.up ≤ 1000) && decide (1 ≤ c.dn ∧ c.dn ≤ 1000) && decide (c.deadBand ≤ 100)
    && decide (c.fallHoldLength ≤ 255) && decide (1 ≤ c.staleLimit ∧ c.staleLimit ≤ 15)
    && decide (1 ≤ c.holdLimit ∧ c.holdLimit ≤ 255) && decide (1 ≤ c.recoverCount ∧ c.recoverCount ≤ 15)
    && decide (1 ≤ c.disagreement ∧ c.disagreement ≤ 1000) && decide (c.uMin ≤ 2000)
    && decide (250 ≤ c.updateInterval ∧ c.updateInterval ≤ 10000)

/-- The configuration a taken SET_PORTAL leaves: role and stages kept, the interval rounded down to a multiple of 250 (R73). -/
def configured (c : PortalFields) (primary secondary : Option (Fin 8)) (old : PortalConfig) : PortalConfig :=
  { old with
    primary := primary
    secondary := secondary
    k := c.k
    lthMin := c.lthMin
    lthCap := c.lthCap
    lthFallback := c.lthFallback
    w := c.w
    up := c.up
    dn := c.dn
    deadBand := c.deadBand
    fallHoldLength := c.fallHoldLength
    staleLimit := c.staleLimit
    holdLimit := c.holdLimit
    recoverCount := c.recoverCount
    disagreement := c.disagreement
    uMin := c.uMin
    updateInterval := c.updateInterval / 250 * 250 }

/-- What a channel position holds of its channel after SET_PORTAL: a channel assigned before, in either position, keeps its last
seen and staleness; a newly assigned one takes its reading number as it stands and staleness 15; none holds nothing (R73). -/
def sightAfter (s : State) (old : PortalConfig) (live : PortalLive) (assigned : Option (Fin 8)) : Sight :=
  match assigned with
  | none => ⟨none, 0⟩
  | some ch =>
      if old.primary = some ch then live.primarySight
      else if old.secondary = some ch then live.secondarySight
      else ⟨some (s.scanner.readings.get ch).number, 15⟩

/-- The live fields a taken SET_PORTAL leaves (R73). -/
def reconfiguredLive (s : State) (old new : PortalConfig) (live : PortalLive) : PortalLive :=
  { live with
    primarySight := sightAfter s old live new.primary
    secondarySight := sightAfter s old live new.secondary
    fallHold := min live.fallHold new.fallHoldLength
    manualLth := min live.manualLth new.lthCap
    timer := .running new.updateInterval }

/-- The effect of a taken SET_PORTAL (R73): with a changed u_min the portal recomputes its output (R113). -/
def setPortalAt (p : Fin 4) (c : PortalFields) (primary secondary : Option (Fin 8)) (s : State) : State :=
  let old := s.settings.portals.get p
  let new := configured c primary secondary old
  let written := modifyPortal p (reconfiguredLive s old new) (modifyPortalConfig p (fun _ => new) s)
  if new.uMin = old.uMin then written else considerAll (recompute p written)

/-- SET_PORTAL: RANGE, BUSY, then the configuration (R73). -/
def takeSetPortal (portal : Nat) (c : PortalFields) (s : State) : Verdict :=
  match idOf 4 portal, channelFieldOf c.primary, channelFieldOf c.secondary with
  | some p, some primary, some secondary =>
      if portalFieldsInRange c && differentChannels primary secondary then
        if storeWriting s then .refused .busy
        else done (setPortalAt p c primary secondary) (fun _ => []) s
      else .refused .range
  | _, _, _ => .refused .range

def execSetPortal (portal : Nat) (fields : PortalFields) (s : State) : Host.Outcome State Fault Refusal :=
  command .station (takeSetPortal portal fields) s

/-! ### SET_ROLE (R72) -/

/-- The stages of a portal taken to CLOSED: every Q and shortfall 0 (R72). -/
def darkened (live : PortalLive) : PortalLive :=
  { live with appliedLth := 0, stages := live.stages.map fun st => { st with q := 0, shortfall := 0 } }

/-- The effect of a change of role (R72). -/
def setRoleAt (p : Fin 4) (role : Role) (s : State) : State :=
  let old := (s.settings.portals.get p).role
  let written := modifyPortalConfig p (fun c => { c with role := role }) s
  if role = old then s
  else
    match role with
    | .closed => considerAll (recompute p (modifyPortal p darkened written))
    | .entrance => modifyPortal p (fun live => { live with riseJump := true }) written
    | .exit =>
        if old = .closed then modifyPortal p (fun live => { live with riseJump := true }) written else written

/-- SET_ROLE: RANGE, BUSY, then the role (R72). -/
def takeSetRole (portal role : Nat) (s : State) : Verdict :=
  match idOf 4 portal, roleOf role with
  | some p, some r => if storeWriting s then .refused .busy else done (setRoleAt p r) (fun _ => []) s
  | _, _ => .refused .range

def execSetRole (portal role : Nat) (s : State) : Host.Outcome State Fault Refusal :=
  command .station (takeSetRole portal role) s

/-! ### SET_MANUAL and SET_AUTO (R69, R70) -/

/-- SET_MANUAL: RANGE, then MANUAL with the luminance lowered to Lth_cap; taken while the store is WRITING (R69, R75). -/
def takeSetManual (portal luminance : Nat) (s : State) : Verdict :=
  match idOf 4 portal with
  | none => .refused .range
  | some p =>
      if Config.topLuminance < luminance then .refused .range
      else
        done (fun s => modifyPortal p (fun live =>
          { live with
            control := .manual
            manualLth := min luminance (s.settings.portals.get p).lthCap
            holdCount := 0
            goodCount := 0 }) s) (fun _ => []) s

def execSetManual (portal luminance : Nat) (s : State) : Host.Outcome State Fault Refusal :=
  command .station (takeSetManual portal luminance) s

/-- SET_AUTO: RANGE, STATE unless MANUAL, then AUTO with counts and causes cleared (R70). -/
def takeSetAuto (portal : Nat) (s : State) : Verdict :=
  match idOf 4 portal with
  | none => .refused .range
  | some p =>
      if (s.portals.get p).control = .manual then
        done (modifyPortal p fun live =>
          { live with
            control := .auto
            holdCount := 0
            goodCount := 0
            cause := .none
            priorCause := .none }) (fun _ => []) s
      else .refused .state

def execSetAuto (portal : Nat) (s : State) : Host.Outcome State Fault Refusal :=
  command .station (takeSetAuto portal) s

/-- READ_PORTAL: the portal record (R74). -/
def takeReadPortal (portal : Nat) (s : State) : Verdict :=
  match idOf 4 portal with
  | none => .refused .range
  | some p => done id (fun s => portalRecordBytes (s.settings.portals.get p) (s.portals.get p)) s

def execReadPortal (portal : Nat) (s : State) : Host.Outcome State Fault Refusal :=
  command .station (takeReadPortal portal) s

/-! ### SET_STAGES (R79, R80) -/

/-- The stage configurations after SET_STAGES: the pairs at positions 0 to n − 1, the unused values from n on (R78, R80). -/
def stageConfigsOf (pairs : List (Nat × Nat)) : Tbl StageConfig 8 :=
  Tbl.tabulate fun j => match pairs[j.val]? with
    | some (f, floor) => ⟨f, floor⟩
    | none => ⟨0, 0⟩

/-- The effect of a taken SET_STAGES: positions in use before and after keep their live fields, all others take zeros, and a raised n
sets the rise jump (R80). -/
def setStagesAt (p : Fin 4) (pairs : List (Nat × Nat)) (s : State) : State :=
  let before := (s.settings.portals.get p).stageCount
  let after := pairs.length
  let kept (j : Fin 8) (st : Stage) : Stage := if j.val < before ∧ j.val < after then st else Stage.unused
  modifyPortal p (fun live =>
      { live with
        stages := live.stages.mapIdx kept
        riseJump := if before < after then true else live.riseJump })
    (modifyPortalConfig p (fun c => { c with stageCount := after, stages := stageConfigsOf pairs }) s)

/-- SET_STAGES: FORMAT, RANGE, BUSY, then the stages (R79, R80). -/
def takeSetStages (portal count : Nat) (pairs : List (Nat × Nat)) (s : State) : Verdict :=
  if pairs.length ≠ count then .refused .format
  else
    match idOf 4 portal with
    | none => .refused .range
    | some p =>
        if count < 1 ∨ 8 < count ∨ pairs.all (fun x => decide (x.1 ≤ 1000 ∧ x.2 ≤ Config.topLuminance)) = false then
          .refused .range
        else if storeWriting s then .refused .busy
        else done (setStagesAt p pairs) (fun _ => []) s

def execSetStages (portal count : Nat) (pairs : List (Nat × Nat)) (s : State) : Host.Outcome State Fault Refusal :=
  command .station (takeSetStages portal count pairs) s

end Sys2Proof.Machine
end

