-- ==== Sys2Proof/Machine/RosterCommands.lean ====
section
/-! DEFINITION. The commands of the roster unit (R7 to R33) and the age tick (R32). Each command has its owner's part,
which answers a verdict (the checks in the order of R163, then the effect), and its step. -/

namespace Sys2Proof.Machine

open Sys2Proof

/-! ### ENTER (R7, R8) -/

/-- The entry that a taken ENTER makes (R8). -/
def enteredEntry (line : Fin 4) (address : Fin 64) (portal : Fin 4) (stage : Fin 8) (cls : Fin 4) (q age : Nat)
    (pin : Option Nat) : Entry where
  state := .provisional
  line := line
  address := address
  portal := portal
  stage := stage
  cls := cls
  q := q
  age := age
  sub := 0
  pin := pin
  health := .unknown
  miss := 0
  unreachable := false
  setLevel := pin.getD 0
  confirmed := none

/-- The lowest-numbered FREE slot (R8). -/
def lowestFree (s : State) : Option (Fin 256) :=
  (s.roster.slots.indexed.find? fun (_, e) => decide (e.state = .free)).map (·.1)

/-- What ENTER's slot field asks for: any FREE slot for 0xFFFF, a named one up to 255 (R7). -/
def slotAsked (slot : Nat) : Option (Option (Fin 256)) := if slot = 0xFFFF then some none else (idOf 256 slot).map some

/-- An entry written into a slot by ENTER, with its mark (R8). -/
def enterAt (slot : Fin 256) (e : Entry) (s : State) : State := mark slot (putEntry slot e s)

/-- ENTER's checks after RANGE, and its effect (R7, R8). -/
def takeEnterChecked (asked : Option (Fin 256)) (e : Entry) (s : State) : Verdict :=
  if asked.any (fun k => decide ((entryAt s k).state ≠ .free)) then .refused .state
  else if conflicts s asked e.line e.address then .refused .conflict
  else
    match asked.or (lowestFree s) with
    | none => .refused .full
    | some slot =>
        if storeWriting s then .refused .busy
        else done (fun s => consider e.line (enterAt slot e s)) (fun _ => to2 slot.val) s

/-- ENTER: RANGE, STATE, CONFLICT, FULL, BUSY in that order (R7), then the entry (R8). -/
def takeEnter (slot line address portal stage cls q age pin : Nat) (s : State) : Verdict :=
  match slotAsked slot, idOf 4 line, idOf 64 address, idOf 4 portal, idOf 8 stage, idOf 4 cls, pinFieldOf pin with
  | some asked, some l, some a, some p, some st, some c, some pinCode =>
      if qInRange q then takeEnterChecked asked (enteredEntry l a p st c q age pinCode) s else .refused .range
  | _, _, _, _, _, _, _ => .refused .range

def execEnter (slot line address portal stage cls q age pin : Nat) (s : State) : Host.Outcome State Fault Refusal :=
  command .station (takeEnter slot line address portal stage cls q age pin) s

/-! ### AMEND (R19, R20) -/

/-- A field of AMEND's message whose position in the presence mask is clear is absent, and its value ignored (1.6). -/
def presentField {α : Type} (present : BitVec 8) (position : Nat) (value : Option α) : Option (Option α) :=
  if present.getLsbD position then value.map some else some none

/-- The descriptive fields of an entry with those present written (R20). -/
def amended (portal : Option (Fin 4)) (stage : Option (Fin 8)) (cls : Option (Fin 4)) (q age : Option Nat)
    (line : Option (Fin 4)) (address : Option (Fin 64)) (e : Entry) : Entry :=
  { e with
    portal := portal.getD e.portal
    stage := stage.getD e.stage
    cls := cls.getD e.cls
    q := q.getD e.q
    age := age.getD e.age
    sub := if age.isSome then 0 else e.sub
    line := line.getD e.line
    address := address.getD e.address }

/-- What a change of line or address does besides (R20): unreachable no, the miss count 0 unless LOST, and for a SUSPENDED
entry the confirmed level NONE. -/
def movedEntry (e : Entry) : Entry :=
  { e with
    unreachable := false
    miss := if e.health = .lost then e.miss else 0
    confirmed := if e.state = .suspended then none else e.confirmed }

/-- The effect of a taken AMEND on its slot (R20): `marks` says whether a present field sets the mark. -/
def amendAt (slot : Fin 256) (new : Entry) (marks : Bool) (s : State) : State :=
  let old := entryAt s slot
  if old.line = new.line ∧ old.address = new.address then markIf marks slot (putEntry slot new s)
  else
    consider new.line
      (withdraw old.line old.address (markIf marks slot (putEntry slot (movedEntry new) s)))

/-- AMEND's checks after RANGE, and its effect, on the fields present (R19, R20). -/
def takeAmendChecked (k : Fin 256) (portal : Option (Fin 4)) (stage : Option (Fin 8)) (cls : Option (Fin 4))
    (q age : Option Nat) (line : Option (Fin 4)) (address : Option (Fin 64)) (s : State) : Verdict :=
  let e := entryAt s k
  let moves := line.isSome || address.isSome
  let marks := portal.isSome || stage.isSome || cls.isSome || q.isSome || moves
  if e.state = .free ∨ e.state = .retiring ∨ (moves = true ∧ e.state = .active) then .refused .state
  else if moves && conflicts s (some k) (line.getD e.line) (address.getD e.address) then .refused .conflict
  else if storeWriting s then .refused .busy
  else done (amendAt k (amended portal stage cls q age line address e) marks) (fun _ => []) s

/-- AMEND: FORMAT of the presence mask, then RANGE, STATE, CONFLICT, BUSY in that order (R19), then the effect (R20). -/
def takeAmend (slot : Nat) (present : BitVec 8) (portal stage cls q age line address : Nat) (s : State) : Verdict :=
  if present.getLsbD 7 then .refused .format
  else
    match idOf 256 slot, presentField present 0 (idOf 4 portal), presentField present 1 (idOf 8 stage),
        presentField present 2 (idOf 4 cls), presentField present 3 (if qInRange q then some q else none),
        presentField present 4 (some age), presentField present 5 (idOf 4 line),
        presentField present 6 (idOf 64 address) with
    | some k, some p, some st, some c, some q', some age', some l, some a => takeAmendChecked k p st c q' age' l a s
    | _, _, _, _, _, _, _, _ => .refused .range

def execAmend (slot : Nat) (present : BitVec 8) (portal stage cls q age line address : Nat) (s : State) :
    Host.Outcome State Fault Refusal :=
  command .station (takeAmend slot present portal stage cls q age line address) s

/-! ### SUSPEND and RESUME (R17, R18) -/

/-- SUSPEND: taken for ACTIVE and PROVISIONAL; the request queued for the entry is withdrawn (R17). -/
def takeSuspend (slot : Nat) (s : State) : Verdict :=
  match idOf 256 slot with
  | none => .refused .range
  | some k =>
      let e := entryAt s k
      if e.state = .active ∨ e.state = .provisional then
        if storeWriting s then .refused .busy
        else done (fun s => withdraw e.line e.address (mark k (putEntry k { e with state := .suspended } s)))
          (fun _ => []) s
      else .refused .state

def execSuspend (slot : Nat) (s : State) : Host.Outcome State Fault Refusal := command .station (takeSuspend slot) s

/-- The entry a taken RESUME leaves (R18). -/
def resumedEntry (e : Entry) : Entry :=
  { e with state := .provisional, health := .unknown, confirmed := none, miss := 0, unreachable := false }

/-- RESUME: taken for SUSPENDED; the entry is verified anew (R18). -/
def takeResume (slot : Nat) (s : State) : Verdict :=
  match idOf 256 slot with
  | none => .refused .range
  | some k =>
      let e := entryAt s k
      if e.state = .suspended then
        if storeWriting s then .refused .busy
        else done (fun s => consider e.line (mark k (putEntry k (resumedEntry e) s))) (fun _ => []) s
      else .refused .state

def execResume (slot : Nat) (s : State) : Host.Outcome State Fault Refusal := command .station (takeResume slot) s

/-! ### RETIRE (R21) -/

/-- Whether a taken RETIRE frees the entry at once: an unreachable PROVISIONAL or SUSPENDED one, or any on a line that is
FAULTED or DISABLED (R21). -/
def freedAtOnce (s : State) (e : Entry) : Bool :=
  (e.unreachable && (decide (e.state = .provisional) || decide (e.state = .suspended))) || !lineUsable s e.line

/-- The entry made RETIRING with set level 0, and its release handed to its line unit (R21, R137). -/
def retireAt (k : Fin 256) (e : Entry) (s : State) : State :=
  hand e.line ⟨.release 0, k, e.address⟩ (mark k (putEntry k { e with state := .retiring, setLevel := 0 } s))

/-- RETIRE: taken for ACTIVE, SUSPENDED and PROVISIONAL; the response reports the resulting state (R21). -/
def takeRetire (slot : Nat) (s : State) : Verdict :=
  match idOf 256 slot with
  | none => .refused .range
  | some k =>
      let e := entryAt s k
      if e.state = .free ∨ e.state = .retiring then .refused .state
      else if storeWriting s then .refused .busy
      else if freedAtOnce s e then done (freeSlot k) (fun _ => to1 (entryStateCode .free)) s
      else done (fun s => consider e.line (retireAt k e s)) (fun _ => to1 (entryStateCode .retiring)) s

def execRetire (slot : Nat) (s : State) : Host.Outcome State Fault Refusal := command .station (takeRetire slot) s

/-! ### PIN, UNPIN and LOCATE (R23 to R25) -/

/-- The states PIN and UNPIN are taken in (R23, R24). -/
def pinnable (e : Entry) : Bool :=
  decide (e.state = .provisional) || decide (e.state = .active) || decide (e.state = .suspended)

/-- The effect of a taken PIN (R23). -/
def pinAt (k : Fin 256) (code : Nat) (e : Entry) (s : State) : State :=
  let written := mark k (putEntry k
    { e with pin := some code, setLevel := if e.health.failed then e.setLevel else code } s)
  if !e.health.failed && decide (e.state = .active) && lineUsable s e.line then
    consider e.line (handLevel e.line k e.address code written)
  else written

/-- PIN: RANGE, STATE (R23); taken while the store is WRITING (R33). -/
def takePin (slot code : Nat) (s : State) : Verdict :=
  match idOf 256 slot with
  | none => .refused .range
  | some k =>
      if 1023 < code then .refused .range
      else
        let e := entryAt s k
        if pinnable e then done (pinAt k code e) (fun _ => []) s else .refused .state

def execPin (slot code : Nat) (s : State) : Host.Outcome State Fault Refusal := command .station (takePin slot code) s

/-- UNPIN: RANGE, STATE (R24); the set level is left as it stands. -/
def takeUnpin (slot : Nat) (s : State) : Verdict :=
  match idOf 256 slot with
  | none => .refused .range
  | some k =>
      let e := entryAt s k
      if pinnable e then done (fun s => mark k (putEntry k { e with pin := none } s)) (fun _ => []) s
      else .refused .state

def execUnpin (slot : Nat) (s : State) : Host.Outcome State Fault Refusal := command .station (takeUnpin slot) s

/-- LOCATE: taken for an ACTIVE entry on a usable line with no request queued; hands one IDENT request (R25, R136). -/
def takeLocate (slot : Nat) (s : State) : Verdict :=
  match idOf 256 slot with
  | none => .refused .range
  | some k =>
      let e := entryAt s k
      if e.state = .active ∧ lineUsable s e.line = true then
        if queuedFor e.address (s.lines.get e.line).queue then .refused .busy
        else done (fun s => consider e.line (hand e.line ⟨.ident, k, e.address⟩ s)) (fun _ => []) s
      else .refused .state

def execLocate (slot : Nat) (s : State) : Host.Outcome State Fault Refusal := command .station (takeLocate slot) s

/-! ### LOOKUP and FIND (R26) -/

/-- LOOKUP: the entry record of a slot (R26). -/
def takeLookup (slot : Nat) (s : State) : Verdict :=
  match idOf 256 slot with
  | none => .refused .range
  | some k => done id (fun s => entryRecordBytes k (entryAt s k)) s

def execLookup (slot : Nat) (s : State) : Host.Outcome State Fault Refusal := command .station (takeLookup slot) s

/-- The slot of the non-FREE entry that holds a line and address (R26). -/
def slotHolding (s : State) (line : Fin 4) (address : Fin 64) : Option (Fin 256) :=
  (s.roster.slots.indexed.find? fun (_, e) =>
    decide (e.state ≠ .free) && decide (e.line = line) && decide (e.address = address)).map (·.1)

/-- FIND: the slot that holds a line and address, or none (R26). -/
def takeFind (line address : Nat) (s : State) : Verdict :=
  match idOf 4 line, idOf 64 address with
  | some l, some a => done id (fun s => slotBytes (slotHolding s l a)) s
  | _, _ => .refused .range

def execFind (line address : Nat) (s : State) : Host.Outcome State Fault Refusal :=
  command .station (takeFind line address) s

/-! ### The transfer window (R27 to R29) -/

/-- The window opened or replaced. -/
def withWindow (w : Window) (s : State) : State := { s with roster := { s.roster with window := some w } }

/-- OPEN_WINDOW: the cursor stands at the first slot (R27). -/
def takeOpenWindow (first last direction : Nat) (s : State) : Verdict :=
  match directionOf direction with
  | none => .refused .range
  | some d =>
      if 255 < first ∨ 255 < last ∨ last < first then .refused .range
      else done (withWindow ⟨first, last, d, first⟩) (fun _ => []) s

def execOpenWindow (first last direction : Nat) (s : State) : Host.Outcome State Fault Refusal :=
  command .station (takeOpenWindow first last direction) s

/-- What WRITE_NEXT counts as it goes: records applied, skipped as EMPTY, ignored past the last slot, and the outcome of the
record that stopped it (R28). -/
structure Transfer where
  state : State
  window : Window
  applied : Nat
  skipped : Nat
  ignored : Nat
  outcome : Status

/-- ENTER's checks on a record at a slot, in their order (R28): the refusal, or none. -/
def recordRefusal (slot : Fin 256) (r : EntryRecord) (s : State) : Option Status :=
  if qInRange r.q = false then some .range
  else if (entryAt s slot).state ≠ .free then some .state
  else if conflicts s (some slot) r.line r.address then some .conflict
  else none

/-- One record against the slot at the cursor (R28). -/
def transferRecord (r : EntryRecord) (t : Transfer) : Transfer :=
  if t.outcome ≠ .done then t
  else if t.window.last < t.window.cursor then { t with ignored := t.ignored + 1 }
  else
    let next := { t.window with cursor := t.window.cursor + 1 }
    if r.state = 0 then { t with window := next, skipped := t.skipped + 1 }
    else
      match idOf 256 t.window.cursor with
      | none => { t with ignored := t.ignored + 1 }
      | some slot =>
          match recordRefusal slot r t.state with
          | some why => { t with outcome := why }
          | none =>
              { t with
                state := enterAt slot (enteredEntry r.line r.address r.portal r.stage r.cls r.q r.age
                  (r.pin.map (·.val))) t.state
                window := next
                applied := t.applied + 1 }

/-- The records of a message in order (R28). -/
def transferAll (records : List EntryRecord) (w : Window) (s : State) : Transfer :=
  records.foldl (fun t r => transferRecord r t) ⟨s, w, 0, 0, 0, .done⟩

/-- WRITE_NEXT: FORMAT, BUSY, WINDOW, then the records; the window stays open (R28). -/
def takeWriteNext (records : List EntryRecord) (s : State) : Verdict :=
  if records.length < 1 ∨ 16 < records.length then .refused .format
  else if storeWriting s then .refused .busy
  else
    match s.roster.window with
    | some w =>
        if w.direction = .write then
          let t := transferAll records w s
          .taken (considerAll (withWindow t.window t.state))
            (to1 t.applied ++ to1 t.skipped ++ to1 t.ignored ++ [statusCode t.outcome] ++ to2 t.window.cursor)
            .nothing
        else .refused .window
    | none => .refused .window

def execWriteNext (records : List EntryRecord) (s : State) : Host.Outcome State Fault Refusal :=
  command .station (takeWriteNext records) s

/-- The entry records of `n` slots from the cursor onward (R29). -/
def recordsFrom (s : State) (cursor n : Nat) : List (List Byte) :=
  ((s.roster.slots.indexed.drop cursor).take n).map fun (slot, e) => entryRecordBytes slot e

/-- READ_NEXT: RANGE, WINDOW, then the records to the end of the window at most; the window stays open (R29). The
response carries the cursor as the command leaves it (log 22). -/
def takeReadNext (count : Nat) (s : State) : Verdict :=
  if count < 1 ∨ 16 < count then .refused .range
  else
    match s.roster.window with
    | some w =>
        if w.direction = .read then
          let n := min count (w.last + 1 - w.cursor)
          let cursor := w.cursor + n
          .taken (withWindow { w with cursor := cursor } s)
            (to1 n ++ to2 cursor ++ (recordsFrom s w.cursor n).flatten) .nothing
        else .refused .window
    | none => .refused .window

def execReadNext (count : Nat) (s : State) : Host.Outcome State Fault Refusal :=
  command .station (takeReadNext count) s

/-! ### Changed marks (R31) -/

/-- READ_MARKS: the 32 marks (R31). -/
def takeReadMarks (s : State) : Verdict := done id (fun s => maskBytes4 s.roster.marks) s

def execReadMarks (s : State) : Host.Outcome State Fault Refusal := command .station takeReadMarks s

/-- CLEAR_MARKS: each mark whose position is set is cleared (R31). -/
def takeClearMarks (mask : BitVec 32) (s : State) : Verdict :=
  done (fun s => { s with roster := { s.roster with marks := s.roster.marks &&& ~~~mask } }) (fun _ => []) s

def execClearMarks (mask : BitVec 32) (s : State) : Host.Outcome State Fault Refusal :=
  command .station (takeClearMarks mask) s

/-! ### The age tick (R32) -/

/-- An entry at an age tick: the sub-count of one whose confirmed level is above 0 rises, and carries at 100; at 65,535 the age
and a sub-count of 0 stay (R32). -/
def aged (e : Entry) : Entry :=
  if e.state ≠ .free ∧ 0 < e.confirmed.getD 0 then
    if 65535 ≤ e.age then { e with sub := 0 }
    else if 100 ≤ e.sub + 1 then { e with sub := 0, age := e.age + 1 }
    else { e with sub := e.sub + 1 }
  else e

/-- AGE_TICK_EXPIRY: every six minutes (R32). -/
def execAgeTickExpiry (s : State) : Host.Outcome State Fault Refusal :=
  .next (whenPowered (fun s =>
    if s.roster.ageTick.isRunning then
      { s with roster := { s.roster with slots := s.roster.slots.map aged, ageTick := .running Config.ageTickMs } }
    else s) s)

end Sys2Proof.Machine
end

