-- ==== Sys2Proof/Machine/Scanner.lean ====
section
/-! DEFINITION. The photometer scanner: conversions (R38 to R44), the scan (R45 to R48) and its commands (R49 to R51). -/

namespace Sys2Proof.Machine

open Sys2Proof

/-! ### From raw code to reading (R39 to R43) -/

/-- A raw code that lies at a rail (R39). -/
def atRail (raw : Nat) : Bool := decide (raw ≤ 15) || decide (4080 ≤ raw)

/-- The luminance of a code within the rails, before the top of the scale (R40). -/
def luminanceOf (mode : Rounding) (c : Calibration) (raw : Nat) : Nat :=
  divRound mode ((raw - c.offset) * c.gain) 256

/-- Luminance and status of a conversion (R39 to R42). -/
def measured (mode : Rounding) (c : Calibration) (raw : Nat) : Option Nat × ReadingStatus :=
  if atRail raw then (none, .invalid)
  else
    let formed := luminanceOf mode c raw
    let luminance := min formed Config.topLuminance
    let status := if Config.topLuminance < formed then ReadingStatus.saturated else ReadingStatus.valid
    if luminance < c.lowLimit ∨ c.highLimit < luminance then (some luminance, .implausible)
    else (some luminance, status)

/-- The reading a conversion leaves: its number advances whatever its status (R43). -/
def newReading (mode : Rounding) (c : Calibration) (raw : Nat) (old : Reading) : Reading :=
  ⟨(measured mode c raw).1, (measured mode c raw).2, old.number + 1⟩

/-! ### The scan (R46, R47) -/

/-- A position of a list that holds a channel, as the scan reaches it; `none` where it holds DISABLED (R45). -/
def scanAt (list : ScanList) (position : Fin 8) : Option Scan :=
  (list.get position).map fun ch => ⟨list, position, ch⟩

/-- After the conversion at a position: the next position's conversion, or the end of the scan (R46). -/
def scanNext (scan : Scan) : Option Scan :=
  if h : scan.position.val + 1 < 8 then scanAt scan.list ⟨scan.position.val + 1, h⟩ else none

/-- The scanner changed. -/
def withScanner (f : Scanner → Scanner) (s : State) : State := { s with scanner := f s.scanner }

/-- SCAN_TIMER_EXPIRY: begins a scan where the scanner is idle and position 0 holds a channel; otherwise, while scanning, it is lost
and SCAN_SKIP is reported (R46, R47). -/
def execScanTimerExpiry (s : State) : Host.Outcome State Fault Refusal :=
  .next (whenPowered (fun s =>
    if s.scanner.timer.isRunning then
      let ticking := withScanner (fun c => { c with timer := .running s.settings.scanInterval }) s
      match s.scanner.scan with
      | some _ => report .scanSkip ticking
      | none => withScanner (fun c => { c with scan := scanAt s.settings.scanList 0 }) ticking
    else s) s)

/-- The completion of a conversion: the new reading replaces the old one whole, the first INVALID or IMPLAUSIBLE reading of a run
reports, and the scan goes on or ends (R38, R44, R46). -/
def complete (scan : Scan) (raw : Nat) (s : State) : State :=
  let ch := scan.channel
  let old := s.scanner.readings.get ch
  let new := newReading s.settings.compute.mode (s.settings.channels.get ch) raw old
  let read := withScanner (fun c => { c with readings := c.readings.set ch new, scan := scanNext scan }) s
  reportIf (decide (new.status = .implausible) && decide (old.status ≠ .implausible)) (.chLimit ch)
    (reportIf (decide (new.status = .invalid) && decide (old.status ≠ .invalid)) (.chInvalid ch) read)

/-- CONVERSION_COMPLETE: the conversion in flight completes with a raw code (R38). -/
def execConversionComplete (raw : Nat) (s : State) : Host.Outcome State Fault Refusal :=
  .next (whenPowered (fun s =>
    match s.scanner.scan with
    | some scan => complete scan raw s
    | none => s) s)

/-! ### Commands (R49 to R51) -/

/-- SET_CHANNEL: RANGE, BUSY, then the whole calibration; the latest reading is not changed (R49). -/
def takeSetChannel (channel offset gain low high : Nat) (s : State) : Verdict :=
  match idOf 8 channel with
  | none => .refused .range
  | some ch =>
      if 1023 < offset ∨ gain = 0 ∨ 65535 < gain ∨ Config.topLuminance < low ∨ Config.topLuminance < high ∨ high < low
      then .refused .range
      else if storeWriting s then .refused .busy
      else
        done (fun s => { s with settings :=
          { s.settings with channels := s.settings.channels.set ch ⟨offset, gain, low, high⟩ } }) (fun _ => []) s

def execSetChannel (channel offset gain low high : Nat) (s : State) : Host.Outcome State Fault Refusal :=
  command .station (takeSetChannel channel offset gain low high) s

/-- SET_SCAN: RANGE, BUSY, then list and interval, the interval rounded down to a multiple of 50, and the timer restarted; a scan in
progress goes on with its working list (R50). -/
def takeSetScan (positions : List Nat) (interval : Nat) (s : State) : Verdict :=
  match tableOf 8 positions with
  | none => .refused .format
  | some _ =>
      match (allSome channelFieldOf positions).bind (tableOf 8) with
      | none => .refused .range
      | some list =>
          if interval < 100 ∨ 5000 < interval then .refused .range
          else if storeWriting s then .refused .busy
          else
            let rounded := interval / 50 * 50
            done (fun s =>
              { s with
                settings := { s.settings with scanList := list, scanInterval := rounded }
                scanner := { s.scanner with timer := .running rounded } }) (fun _ => []) s

def execSetScan (positions : List Nat) (interval : Nat) (s : State) : Host.Outcome State Fault Refusal :=
  command .station (takeSetScan positions interval) s

/-- READ_CHANNEL: the channel record (R51). -/
def takeReadChannel (channel : Nat) (s : State) : Verdict :=
  match idOf 8 channel with
  | none => .refused .range
  | some ch => done id (fun s => channelRecordBytes s ch) s

def execReadChannel (channel : Nat) (s : State) : Host.Outcome State Fault Refusal :=
  command .station (takeReadChannel channel) s

end Sys2Proof.Machine
end

