-- ==== Sys2Proof/Machine/StoreCommands.lean ====
section
/-! DEFINITION. The commands of the settings store and the end of its write (R181, R182, R184). -/

namespace Sys2Proof.Machine

open Sys2Proof

/-- The store changed. -/
def withStore (f : Store → Store) (s : State) : State := { s with store := f s.store }

/-- STORE: BUSY while WRITING; otherwise a snapshot, WRITING, and the completion record incomplete (R181). -/
def takeStore (s : State) : Verdict :=
  if storeWriting s then .refused .busy
  else
    done (fun s => withStore (fun st => { st with state := .writing (snapshotOf s), complete := false }) s)
      (fun _ => []) s

def execStore (s : State) : Host.Outcome State Fault Refusal := command .station takeStore s

/-- A write ended by its read-back (R181): matching, the image is the snapshot with its check and a complete record; not matching, the
record stays incomplete, the state is FAILED and STORE_FAIL is reported. -/
def writeEnded (good : Bool) (image : Image) (s : State) : State :=
  if good then
    withStore (fun _ => { state := .idle, image := image, check := -(imageSum image), complete := true }) s
  else report .storeFail (withStore (fun st => { st with state := .failed }) s)

/-- STORE_WRITE_COMPLETE: the read-back of the image ends, matching the snapshot or not (R181). -/
def execStoreWriteComplete (good : Bool) (s : State) : Host.Outcome State Fault Refusal :=
  .next (whenPowered (fun s =>
    match s.store.state with
    | .writing image => writeEnded good image s
    | .idle => s
    | .failed => s) s)

/-- RESTART: BUSY while WRITING; otherwise taken, its reinitialisation held back until its response has ended (R170, R184). -/
def takeRestart (s : State) : Verdict :=
  if storeWriting s then .refused .busy else .taken (closeWindow s) [] .restart

def execRestart (s : State) : Host.Outcome State Fault Refusal := command .station takeRestart s

end Sys2Proof.Machine
end

