-- ==== Sys2Proof/Machine/Tables.lean ====
section
/-! DEFINITION. The commands of the output tables (R94, R96, R108, R114). -/

namespace Sys2Proof.Machine

open Sys2Proof

/-- The output recomputation of each portal for which the power limit is active, P0 first (R94, log 9). -/
def recomputeLimited (s : State) : State :=
  (List.finRange 4).foldl (fun acc p => if limitActive s p then recompute p acc else acc) s

/-- SET_COMPUTE: RANGE, BUSY, then all three settings; every limited portal recomputes its output (R94). -/
def takeSetCompute (mode thermal ceiling : Nat) (s : State) : Verdict :=
  match roundingOf mode with
  | none => .refused .range
  | some m =>
      if thermal < 300 ∨ 1000 < thermal ∨ ceiling < 2000 ∨ 10000 < ceiling then .refused .range
      else if storeWriting s then .refused .busy
      else
        done (fun s => considerAll (recomputeLimited
          { s with settings := { s.settings with compute := ⟨m, thermal, ceiling⟩ } })) (fun _ => []) s

def execSetCompute (mode thermal ceiling : Nat) (s : State) : Host.Outcome State Fault Refusal :=
  command .station (takeSetCompute mode thermal ceiling) s

/-- Each threshold greater than the one before it (R95). -/
def rising : List Nat → Bool
  | a :: b :: rest => decide (a < b) && rising (b :: rest)
  | [_] => true
  | [] => true

/-- SET_MAINTENANCE: FORMAT, RANGE, BUSY, then the whole table (R96). -/
def takeSetMaintenance (count : Nat) (rows : List (Nat × Nat)) (s : State) : Verdict :=
  if rows.length ≠ count then .refused .format
  else if count < 1 ∨ 8 < count ∨ (rows.map (·.1)).head? ≠ some 0 ∨ rising (rows.map (·.1)) = false
      ∨ rows.all (fun r => decide (500 ≤ r.2 ∧ r.2 ≤ 1000)) = false then .refused .range
  else if storeWriting s then .refused .busy
  else
    done (fun s => { s with settings :=
      { s.settings with maintenance := rows.map fun r => ⟨r.1, r.2⟩ } }) (fun _ => []) s

def execSetMaintenance (count : Nat) (rows : List (Nat × Nat)) (s : State) : Host.Outcome State Fault Refusal :=
  command .station (takeSetMaintenance count rows) s

/-- No point less than the point before it (R106). -/
def notFalling : List Nat → Bool
  | a :: b :: rest => decide (a ≤ b) && notFalling (b :: rest)
  | [_] => true
  | [] => true

/-- The conditions on a curve's points: c[0] is 0, the others at least 1, none less than the one before, c[16] at most 1,023
(R106). -/
def curveInRange (points : List Nat) : Bool :=
  decide (points.head? = some 0) && points.tail.all (fun c => decide (1 ≤ c)) && notFalling points
    && points.all (fun c => decide (c ≤ 1023))

/-- SET_CURVE: FORMAT, RANGE, BUSY, then the class's curve whole (R108). -/
def takeSetCurve (cls : Nat) (points : List Nat) (s : State) : Verdict :=
  match tableOf 17 points with
  | none => .refused .format
  | some curve =>
      match idOf 4 cls with
      | none => .refused .range
      | some c =>
          if curveInRange points = false then .refused .range
          else if storeWriting s then .refused .busy
          else
            done (fun s => { s with settings := { s.settings with curves := s.settings.curves.set c curve } })
              (fun _ => []) s

def execSetCurve (cls : Nat) (points : List Nat) (s : State) : Host.Outcome State Fault Refusal :=
  command .station (takeSetCurve cls points) s

/-- READ_TABLES: a class's curve, the maintenance table and the compute settings (R114). -/
def takeReadTables (cls : Nat) (s : State) : Verdict :=
  match idOf 4 cls with
  | none => .refused .range
  | some c =>
      done id (fun s => tablesBytes (s.settings.curves.get c) s.settings.maintenance s.settings.compute) s

def execReadTables (cls : Nat) (s : State) : Host.Outcome State Fault Refusal :=
  command .station (takeReadTables cls) s

end Sys2Proof.Machine
end

