-- ==== Sys2Proof/Machine/LinkUnit.lean ====
section
/-! DEFINITION. The link unit (chapter 8): characters (R157), listening and waking (R159), messages (R160, R161), dispatch (R162 to
R164, R168), responses (R166, R167) and SET_LINK (R169, R170). -/

namespace Sys2Proof.Machine

open Sys2Proof

/-! ### SET_LINK (R169) -/

/-- SET_LINK: RANGE, BUSY, then taken, its settings written once its response has ended (R169, R170). -/
def takeSetLink (station baud : Nat) (s : State) : Verdict :=
  match baudOf baud with
  | none => .refused .range
  | some b =>
      if station < 1 ∨ 31 < station then .refused .range
      else if storeWriting s then .refused .busy
      else .taken (closeWindow s) [] (.setLink station b)

def execSetLink (station baud : Nat) (s : State) : Host.Outcome State Fault Refusal :=
  command .station (takeSetLink station baud) s

/-! ### Dispatch (R162 to R164, R168) -/

/-- The owner's part of a link command (the command summary of 8.9). Events are no messages: the decoder yields none. -/
def owner : Instr → State → Verdict
  | .enter slot line address portal stage cls q age pin, s => takeEnter slot line address portal stage cls q age pin s
  | .amend slot present portal stage cls q age line address, s =>
      takeAmend slot present portal stage cls q age line address s
  | .suspend slot, s => takeSuspend slot s
  | .resume slot, s => takeResume slot s
  | .retire slot, s => takeRetire slot s
  | .pin slot code, s => takePin slot code s
  | .unpin slot, s => takeUnpin slot s
  | .locate slot, s => takeLocate slot s
  | .lookup slot, s => takeLookup slot s
  | .find line address, s => takeFind line address s
  | .openWindow first last direction, s => takeOpenWindow first last direction s
  | .writeNext records, s => takeWriteNext records s
  | .readNext count, s => takeReadNext count s
  | .readMarks, s => takeReadMarks s
  | .clearMarks mask, s => takeClearMarks mask s
  | .setChannel channel offset gain low high, s => takeSetChannel channel offset gain low high s
  | .setScan positions interval, s => takeSetScan positions interval s
  | .readChannel channel, s => takeReadChannel channel s
  | .setPortal portal fields, s => takeSetPortal portal fields s
  | .setRole portal role, s => takeSetRole portal role s
  | .setManual portal luminance, s => takeSetManual portal luminance s
  | .setAuto portal, s => takeSetAuto portal s
  | .readPortal portal, s => takeReadPortal portal s
  | .setStages portal count pairs, s => takeSetStages portal count pairs s
  | .setCompute mode thermal ceiling, s => takeSetCompute mode thermal ceiling s
  | .setMaintenance count rows, s => takeSetMaintenance count rows s
  | .setCurve cls points, s => takeSetCurve cls points s
  | .readTables cls, s => takeReadTables cls s
  | .force _ mask, s => takeForce mask s
  | .unforce _ mask, s => takeUnforce mask s
  | .limit _ mask, s => takeLimit mask s
  | .unlimit _ mask, s => takeUnlimit mask s
  | .freeze _ mask, s => takeFreeze mask s
  | .unfreeze _ mask, s => takeUnfreeze mask s
  | .setInput input function mask sense polarity, s => takeSetInput input function mask sense polarity s
  | .readInputs, s => takeReadInputs s
  | .setLines enables missLimit, s => takeSetLines enables missLimit s
  | .readLine line, s => takeReadLine line s
  | .setLink station baud, s => takeSetLink station baud s
  | .setMask mask, s => takeSetMask mask s
  | .clearEvents mask, s => takeClearEvents mask s
  | .readStatus, s => takeReadStatus s
  | .store, s => takeStore s
  | .restart, s => takeRestart s
  | .fullReset, _ => .refused .format
  | .ageTickExpiry, _ => .refused .format
  | .scanTimerExpiry, _ => .refused .format
  | .conversionComplete _, _ => .refused .format
  | .updateTimerExpiry _, _ => .refused .format
  | .inputLevelChange _ _, _ => .refused .format
  | .debounceExpiry _, _ => .refused .format
  | .forwardFrameEnd _, _ => .refused .format
  | .contention _, _ => .refused .format
  | .replyOutcome _ _, _ => .refused .format
  | .transactionEnd _, _ => .refused .format
  | .faultWaitExpiry _, _ => .refused .format
  | .probeEnd _, _ => .refused .format
  | .addressCharacter _, _ => .refused .format
  | .dataCharacter _, _ => .refused .format
  | .gapTimerExpiry, _ => .refused .format
  | .responseStart, _ => .refused .format
  | .responseEnd, _ => .refused .format
  | .storeWriteComplete _, _ => .refused .format
  | .spoiledCharacter, _ => .refused .format
  | .backwardFrameStart _ _, _ => .refused .format
  | .powerLoss, _ => .refused .format

/-- The owner's part of a message's characters from the code to the last parameter: FORMAT where they are no command (R164). -/
def messageOwner (dest : Dest) (content : List Byte) (s : State) : Verdict :=
  match decodeMessage dest content with
  | some c => owner c s
  | none => .refused .format

/-- A good broadcast message whose command may be broadcast: one of the six override commands (R168). -/
def mayBroadcast : List Byte → Bool
  | [] => false
  | code :: _ => broadcastCode code

/-- A good message dispatched (R162, R168): a broadcast one whose command may not be broadcast is discarded (R161). -/
def dispatch (dest : Dest) (content : List Byte) (s : State) : State :=
  match dest with
  | .station => deliver .station (messageOwner .station content) s
  | .broadcast =>
      if mayBroadcast content then deliver .broadcast (messageOwner .broadcast content) s
      else withReceive .asleep s

/-! ### Characters (R157, R159, R160) -/

/-- An address character judged by its eight data bits: it wakes the link unit for its station or a broadcast, or puts it to sleep
(R159). -/
def judge (value : Byte) (s : State) : State :=
  if value = 0#8 then withReceive (.length .broadcast) s
  else if value.toNat = s.settings.station then withReceive (.length .station) s
  else withReceive .asleep s

/-- An unspoiled address character (R159): it abandons a message being received, and cancels a response in TURNAROUND (R167); where a
SET_LINK or RESTART waits for that response, its effect takes place and the message begun is abandoned (R170, R171). -/
def addressReceived (value : Byte) (s : State) : State :=
  match s.link.receive with
  | .asleep => judge value s
  | .length _ => judge value s
  | .body _ _ _ => judge value s
  | .turnaround _ .nothing => judge value s
  | .turnaround _ (.setLink station baud) => completeHeld (.setLink station baud) s
  | .turnaround _ .restart => completeHeld .restart s
  | .sending _ _ => s

/-- ADDRESS_CHARACTER. -/
def execAddressCharacter (value : Byte) (s : State) : Host.Outcome State Fault Refusal :=
  .next (whenPowered (addressReceived value) s)

/-- The n characters of a body received, the last being the check (R160): the message is good where n and the characters sum to 0
modulo 256, and is dispatched; otherwise it is discarded. -/
def bodyReceived (dest : Dest) (n : Nat) (characters : List Byte) (s : State) : State :=
  if byteSum (BitVec.ofNat 8 n :: characters) = 0#8 then dispatch dest characters.dropLast s
  else withReceive .asleep s

/-- A data character: the length in LENGTH, a character of the body in BODY, and not read otherwise (R159, R160). -/
def dataReceived (value : Byte) (s : State) : State :=
  match s.link.receive with
  | .length dest =>
      if 2 ≤ value.toNat ∧ value.toNat ≤ 250 then withReceive (.body dest value.toNat []) s
      else withReceive .asleep s
  | .body dest n got =>
      if got.length + 1 < n then withReceive (.body dest n (got ++ [value])) s
      else bodyReceived dest n (got ++ [value]) s
  | .asleep => s
  | .turnaround _ _ => s
  | .sending _ _ => s

/-- DATA_CHARACTER. -/
def execDataCharacter (value : Byte) (s : State) : Host.Outcome State Fault Refusal :=
  .next (whenPowered (dataReceived value) s)

/-- SPOILED_CHARACTER: it spoils a message being received, and is not read otherwise (R159). -/
def execSpoiledCharacter (s : State) : Host.Outcome State Fault Refusal :=
  .next (whenPowered (fun s =>
    match s.link.receive with
    | .length _ => withReceive .asleep s
    | .body _ _ _ => withReceive .asleep s
    | .asleep => s
    | .turnaround _ _ => s
    | .sending _ _ => s) s)

/-- GAP_TIMER_EXPIRY: a message whose next character has not begun in time is abandoned (R160). -/
def execGapTimerExpiry (s : State) : Host.Outcome State Fault Refusal :=
  .next (whenPowered (fun s => if s.link.gap.isRunning then withReceive .asleep s else s) s)

/-- RESPONSE_START: the response in preparation begins, and the receive state is SENDING (R166). -/
def execResponseStart (s : State) : Host.Outcome State Fault Refusal :=
  .next (whenPowered (fun s =>
    match s.link.receive with
    | .turnaround response held => withReceive (.sending response held) s
    | .asleep => s
    | .length _ => s
    | .body _ _ _ => s
    | .sending _ _ => s) s)

/-- RESPONSE_END: the link unit is ASLEEP, and an effect held back takes place (R166, R170). -/
def execResponseEnd (s : State) : Host.Outcome State Fault Refusal :=
  .next (whenPowered (fun s =>
    match s.link.receive with
    | .sending _ held => completeHeld held s
    | .asleep => s
    | .length _ => s
    | .body _ _ _ => s
    | .turnaround _ _ => s) s)

/-! ### The characters of a response on the pair (R157, R166) -/

/-- The 11 bits of a character in the order sent: a start bit of 0, the eight data bits, least significant first, the mark bit, and a stop
bit of 1 (R157). -/
def sentCharacter (markBit : Bool) (value : Byte) : List Bool :=
  [false] ++ (List.range 8).map value.getLsbD ++ [markBit, true]

/-- The bits of a response: its address character, then its data characters one after another with no interval between them (R165,
R166). -/
def sentBits (r : Response) : List Bool :=
  sentCharacter true r.address ++ (r.body.map (sentCharacter false)).flatten

/-- What the part sends onto the pair: the bits of its response while SENDING, and nothing in any other receive state (R166). -/
def pairDriven (s : State) : List Bool :=
  match s.link.receive with
  | .sending response _ => sentBits response
  | .asleep => []
  | .length _ => []
  | .body _ _ _ => []
  | .turnaround _ _ => []

/-! ### A character from the pair's samples (R157) -/

/-- The three samples of a bit about its middle. -/
structure Samples where
  first : Bool
  second : Bool
  third : Bool
deriving DecidableEq, Repr

/-- The value at least two of a bit's samples give (R157). -/
def majority (b : Samples) : Bool := (b.first && b.second) || (b.first && b.third) || (b.second && b.third)

/-- The three samples agree; otherwise there is a noise detection (R157). -/
def agrees (b : Samples) : Bool := decide (b.first = b.second) && decide (b.second = b.third)

/-- The eight data bits, sent least significant first (R157). -/
def dataBits (bits : List Bool) : Byte :=
  BitVec.ofNat 8 (bits.foldr (fun b acc => b.toNat + 2 * acc) 0)

/-- The event of a character's 11 bits at the end of its stop bit (R157): none for a false start, whose start bit is taken as 1; a spoiled
character where samples disagree or the stop bit is taken as 0; otherwise an address or a data character by its mark bit. -/
def characterEvent (start : Samples) (data : Tbl Samples 8) (markBit stop : Samples) : Option Instr :=
  let value := dataBits (data.cells.map majority)
  if majority start then none
  else if !(agrees start && data.cells.all agrees && agrees markBit && agrees stop) || !majority stop then
    some .spoiledCharacter
  else if majority markBit then some (.addressCharacter value)
  else some (.dataCharacter value)

end Sys2Proof.Machine
end

