-- ==== Sys2Proof/Machine/Portal.lean ====
section
/-! DEFINITION. A portal's update (chapter 3: R57 to R71, chapter 4: R84 to R89, and the output of chapter 5). -/

namespace Sys2Proof.Machine

open Sys2Proof

/-! ### Selection (R58 to R61) -/

/-- A channel's reading number compared with the portal's last seen (R58). -/
def look (number : BitVec 8) (sight : Sight) : Sight :=
  if sight.lastSeen = some number then { sight with staleness := min 15 (sight.staleness + 1) }
  else ⟨some number, 0⟩

/-- The statuses that yield a luminance a portal may select (R37, R52). -/
def selectable (status : ReadingStatus) : Bool :=
  match status with
  | .valid | .saturated => true
  | .none | .invalid | .implausible => false

/-- The luminance of an assigned channel that is usable at this update (R59). -/
def usable (staleLimit : Nat) (r : Reading) (sight : Sight) : Option Nat :=
  if selectable r.status && decide (sight.staleness < staleLimit) then r.luminance else none

/-- The failure of an assigned channel that is not usable (R59). -/
def failureOf (channel : Fin 8) (r : Reading) : Cause :=
  match r.status with
  | .invalid => .invalid channel
  | .implausible => .implausible channel
  | .none => .stale channel
  | .valid => .stale channel
  | .saturated => .stale channel

/-- What an update finds at one channel position: the sight after R58, and the luminance if usable. -/
def findPosition (s : State) (staleLimit : Nat) (assigned : Option (Fin 8)) (sight : Sight) : Sight × Option Nat :=
  match assigned with
  | none => (sight, none)
  | some ch =>
      let r := s.scanner.readings.get ch
      let seen := look r.number sight
      (seen, usable staleLimit r seen)

/-- Two usable luminances disagree (R60). -/
def disagree (setting a b : Nat) : Bool := decide (setting * max a b < (max a b - min a b) * 1000)

/-- The approach luminance selected: the brighter of two, the one of one, none of none (R60, R61). -/
def selected : Option Nat → Option Nat → Option Nat
  | some a, some b => some (max a b)
  | some a, none => some a
  | none, some b => some b
  | none, none => none

/-- The cause formed at an update without an S (R61). -/
def causeFormed (s : State) (c : PortalConfig) : Cause :=
  match c.primary, c.secondary with
  | some ch, _ => failureOf ch (s.scanner.readings.get ch)
  | none, some ch => failureOf ch (s.scanner.readings.get ch)
  | none, none => .noChannel

/-- Selection (R58 to R60): sights, the disagreeing field, and S. -/
def selectionPass (s : State) (c : PortalConfig) (live : PortalLive) : PortalLive × Option Nat :=
  let (sight₁, a) := findPosition s c.staleLimit c.primary live.primarySight
  let (sight₂, b) := findPosition s c.staleLimit c.secondary live.secondarySight
  let disagreeing := match a, b with
    | some x, some y => disagree c.disagreement x y
    | _, _ => false
  ({ live with primarySight := sight₁, secondarySight := sight₂, disagreeing := disagreeing }, selected a b)

/-! ### Filter and trend (R62, R63) -/

/-- F stepped toward S by the share w/256 of the difference, rounded (R62). -/
def filterStep (mode : Rounding) (w f luminance : Nat) : Nat :=
  ((f : Int) + divRoundInt mode (((luminance : Int) - (f : Int)) * (w : Int)) 256).toNat

/-- The trend after a filter step, and the fall hold count, loaded on a change from RISING to FALLING (R63). -/
def trendAfter (c : PortalConfig) (before after : Nat) (live : PortalLive) : PortalLive :=
  if before < after then { live with trend := .rising }
  else if after < before then
    { live with
      trend := .falling
      fallHold := if live.trend = .rising then c.fallHoldLength else live.fallHold }
  else live

/-- The approach filter: F is seeded from S or stepped toward it, and held without an S and in FALLBACK (R62). -/
def filterPass (mode : Rounding) (c : PortalConfig) (sel : Option Nat) (live : PortalLive) : PortalLive :=
  match sel, live.control with
  | none, _ => live
  | some _, .fallback => live
  | some luminance, _ =>
      if live.seeded then
        let f := filterStep mode c.w live.filtered luminance
        trendAfter c live.filtered f { live with filtered := f }
      else { live with filtered := luminance, seeded := true }

/-! ### Control state and Lth (R65 to R71) -/

/-- Entry to FALLBACK with a cause and a prior cause (R68). -/
def enterFallback (cause prior : Cause) (live : PortalLive) : PortalLive :=
  { live with
    control := .fallback
    cause := cause
    priorCause := prior
    holdCount := 0
    goodCount := 0
    seeded := false
    riseJump := true }

/-- The control state after an update, from the S selected and the cause formed without one (R65 to R69). -/
def controlPass (c : PortalConfig) (sel : Option Nat) (formed : Cause) (live : PortalLive) : PortalLive :=
  match live.control, sel with
  | .start, some _ => { live with control := .auto, holdCount := 0, cause := .none }
  | .start, none =>
      if c.holdLimit ≤ live.holdCount + 1 then enterFallback formed .none live
      else { live with holdCount := live.holdCount + 1, cause := formed }
  | .auto, some _ => live
  | .auto, none => { live with control := .hold, holdCount := 1, cause := formed }
  | .hold, some _ => { live with control := .auto, holdCount := 0, cause := .none }
  | .hold, none =>
      if c.holdLimit ≤ live.holdCount + 1 then enterFallback formed live.cause live
      else { live with holdCount := live.holdCount + 1 }
  | .fallback, some luminance =>
      if c.recoverCount ≤ live.goodCount + 1 then
        { live with
          control := .auto
          filtered := luminance
          seeded := true
          goodCount := 0
          cause := .none
          priorCause := .none }
      else { live with goodCount := live.goodCount + 1 }
  | .fallback, none => { live with goodCount := 0, cause := formed }
  | .manual, _ => live

/-- Lth from F, clamped to [Lth_min, Lth_cap] (R66). -/
def lthFromFilter (mode : Rounding) (c : PortalConfig) (f : Nat) : Nat :=
  min c.lthCap (max c.lthMin (divRound mode (f * c.k) 1000))

/-- The control Lth that the control state gives (R65 to R69). -/
def controlLthOf (mode : Rounding) (c : PortalConfig) (live : PortalLive) : Nat :=
  match live.control with
  | .start => c.lthFallback
  | .auto => if live.seeded then lthFromFilter mode c live.filtered else c.lthFallback
  | .hold => if live.seeded then lthFromFilter mode c live.filtered else c.lthFallback
  | .fallback => c.lthFallback
  | .manual => live.manualLth

/-- The applied Lth: the control Lth for an ENTRANCE, 0 for the other roles (R71). -/
def appliedLthOf (role : Role) (controlLth : Nat) : Nat :=
  match role with
  | .entrance => controlLth
  | .exit => 0
  | .closed => 0

/-- Both Lth fields written (R66 to R71). -/
def lthPass (mode : Rounding) (c : PortalConfig) (live : PortalLive) : PortalLive :=
  { live with
    controlLth := controlLthOf mode c live
    appliedLth := appliedLthOf c.role (controlLthOf mode c live) }

/-! ### Requirement and slew (R81 to R89) -/

/-- Requirement and Q of each stage in use; then the fall hold count is lowered in AUTO and the rise jump is spent (R81 to
R89). -/
def stagePass (mode : Rounding) (c : PortalConfig) (live : PortalLive) : PortalLive :=
  let required := requirements mode c live.appliedLth
  let slewed := slewAll mode c live.riseJump live.fallHold required (live.stages.cells.map (·.q))
  let written (j : Fin 8) (st : Stage) : Stage :=
    if j.val < c.stageCount then { st with requirement := required.getD j.val 0, q := slewed.getD j.val 0 } else st
  { live with
    stages := live.stages.mapIdx written
    fallHold := if live.control = .auto then live.fallHold - 1 else live.fallHold
    riseJump := false }

/-! ### The update (R57) -/

/-- The live record after selection, filter, control state, Lth, requirement and slew, in that order (R57). -/
def controlled (s : State) (p : Fin 4) : PortalLive :=
  let c := s.settings.portals.get p
  let mode := s.settings.compute.mode
  let (live, sel) := selectionPass s c (s.portals.get p)
  stagePass mode c (lthPass mode c (controlPass c sel (causeFormed s c) (filterPass mode c sel live)))

/-- One update of a portal, carried out whole (R57): the control part with its reports (R60, R66, R68), then capacity,
output fraction, and level codes and requests; the timer runs on with the update interval. -/
def update (p : Fin 4) (s : State) : State :=
  let before := s.portals.get p
  let after := controlled s p
  let s₁ := modifyPortal p (fun _ =>
    { after with updated := true, timer := .running (s.settings.portals.get p).updateInterval }) s
  let s₂ := reportIf (after.disagreeing && !before.disagreeing) (.pDisagree p) s₁
  let s₃ := reportIf (decide (before.control = .auto) && decide (after.control = .hold)) (.pHold p) s₂
  let s₄ := reportIf (decide (before.control ≠ .fallback) && decide (after.control = .fallback)) (.pFallback p) s₃
  levelPass p (outputPass p (capacityPass p s₄))

/-- UPDATE_TIMER_EXPIRY: a portal's update timer expires and starts one update (R57); requests handed to a quiet line start
its next transaction (R140). -/
def execUpdateTimerExpiry (portal : Fin 4) (s : State) : Host.Outcome State Fault Refusal :=
  .next (whenPowered (fun s =>
    if (s.portals.get portal).timer.isRunning then considerAll (update portal s) else s) s)

end Sys2Proof.Machine
end

