-- ==== Sys2Proof/Machine/Dispatch.lean ====
section
/-! DEFINITION. One arm for each command: a direct call of its meaning. -/

namespace Sys2Proof.Machine

open Sys2Proof

def exec (i : Instr) (s : State) : Host.Outcome State Fault Refusal :=
  match i with
  | .fullReset => Sys2Proof.Machine.execFullReset s
  | .enter slot line address portal stage cls q age pin => Sys2Proof.Machine.execEnter slot line address portal stage cls q age pin s
  | .amend slot present portal stage cls q age line address => Sys2Proof.Machine.execAmend slot present portal stage cls q age line address s
  | .suspend slot => Sys2Proof.Machine.execSuspend slot s
  | .resume slot => Sys2Proof.Machine.execResume slot s
  | .retire slot => Sys2Proof.Machine.execRetire slot s
  | .pin slot code => Sys2Proof.Machine.execPin slot code s
  | .unpin slot => Sys2Proof.Machine.execUnpin slot s
  | .locate slot => Sys2Proof.Machine.execLocate slot s
  | .lookup slot => Sys2Proof.Machine.execLookup slot s
  | .find line address => Sys2Proof.Machine.execFind line address s
  | .openWindow first last direction => Sys2Proof.Machine.execOpenWindow first last direction s
  | .writeNext records => Sys2Proof.Machine.execWriteNext records s
  | .readNext count => Sys2Proof.Machine.execReadNext count s
  | .readMarks => Sys2Proof.Machine.execReadMarks s
  | .clearMarks mask => Sys2Proof.Machine.execClearMarks mask s
  | .ageTickExpiry => Sys2Proof.Machine.execAgeTickExpiry s
  | .setChannel channel offset gain low high => Sys2Proof.Machine.execSetChannel channel offset gain low high s
  | .setScan positions interval => Sys2Proof.Machine.execSetScan positions interval s
  | .readChannel channel => Sys2Proof.Machine.execReadChannel channel s
  | .scanTimerExpiry => Sys2Proof.Machine.execScanTimerExpiry s
  | .conversionComplete raw => Sys2Proof.Machine.execConversionComplete raw s
  | .setPortal portal fields => Sys2Proof.Machine.execSetPortal portal fields s
  | .setRole portal role => Sys2Proof.Machine.execSetRole portal role s
  | .setManual portal luminance => Sys2Proof.Machine.execSetManual portal luminance s
  | .setAuto portal => Sys2Proof.Machine.execSetAuto portal s
  | .readPortal portal => Sys2Proof.Machine.execReadPortal portal s
  | .updateTimerExpiry portal => Sys2Proof.Machine.execUpdateTimerExpiry portal s
  | .setStages portal count pairs => Sys2Proof.Machine.execSetStages portal count pairs s
  | .setCompute mode thermal ceiling => Sys2Proof.Machine.execSetCompute mode thermal ceiling s
  | .setMaintenance count rows => Sys2Proof.Machine.execSetMaintenance count rows s
  | .setCurve cls points => Sys2Proof.Machine.execSetCurve cls points s
  | .readTables cls => Sys2Proof.Machine.execReadTables cls s
  | .inputLevelChange input level => Sys2Proof.Machine.execInputLevelChange input level s
  | .debounceExpiry input => Sys2Proof.Machine.execDebounceExpiry input s
  | .force dest mask => Sys2Proof.Machine.execForce dest mask s
  | .unforce dest mask => Sys2Proof.Machine.execUnforce dest mask s
  | .limit dest mask => Sys2Proof.Machine.execLimit dest mask s
  | .unlimit dest mask => Sys2Proof.Machine.execUnlimit dest mask s
  | .freeze dest mask => Sys2Proof.Machine.execFreeze dest mask s
  | .unfreeze dest mask => Sys2Proof.Machine.execUnfreeze dest mask s
  | .setInput input function mask sense polarity => Sys2Proof.Machine.execSetInput input function mask sense polarity s
  | .readInputs => Sys2Proof.Machine.execReadInputs s
  | .forwardFrameEnd line => Sys2Proof.Machine.execForwardFrameEnd line s
  | .contention line => Sys2Proof.Machine.execContention line s
  | .replyOutcome line received => Sys2Proof.Machine.execReplyOutcome line received s
  | .transactionEnd line => Sys2Proof.Machine.execTransactionEnd line s
  | .faultWaitExpiry line => Sys2Proof.Machine.execFaultWaitExpiry line s
  | .probeEnd line => Sys2Proof.Machine.execProbeEnd line s
  | .setLines enables missLimit => Sys2Proof.Machine.execSetLines enables missLimit s
  | .readLine line => Sys2Proof.Machine.execReadLine line s
  | .addressCharacter value => Sys2Proof.Machine.execAddressCharacter value s
  | .dataCharacter value => Sys2Proof.Machine.execDataCharacter value s
  | .gapTimerExpiry => Sys2Proof.Machine.execGapTimerExpiry s
  | .responseStart => Sys2Proof.Machine.execResponseStart s
  | .responseEnd => Sys2Proof.Machine.execResponseEnd s
  | .setLink station baud => Sys2Proof.Machine.execSetLink station baud s
  | .setMask mask => Sys2Proof.Machine.execSetMask mask s
  | .clearEvents mask => Sys2Proof.Machine.execClearEvents mask s
  | .readStatus => Sys2Proof.Machine.execReadStatus s
  | .store => Sys2Proof.Machine.execStore s
  | .storeWriteComplete good => Sys2Proof.Machine.execStoreWriteComplete good s
  | .restart => Sys2Proof.Machine.execRestart s
  | .spoiledCharacter => Sys2Proof.Machine.execSpoiledCharacter s
  | .backwardFrameStart line micros => Sys2Proof.Machine.execBackwardFrameStart line micros s
  | .powerLoss => Sys2Proof.Machine.execPowerLoss s

end Sys2Proof.Machine
end

