-- ==== Sys2Proof/Machine/Step.lean ====
section
/-! DEFINITION. One step of the block: the command at the front of the queue is taken and carried out whole. -/

namespace Sys2Proof.Machine

open Sys2Proof

/-- The waiting commands replaced. -/
def withPending (queue : List Instr) (s : State) : State := { s with pending := queue }

/-- The front command leaves the queue and has its effect on the rest of the state; on an empty queue the block idles (no
clock runs in the model, log 3). -/
def step (s : State) : Host.Outcome State Fault Refusal :=
  match s.pending with
  | [] => .next s
  | c :: rest => exec c (withPending rest s)

/-- The state with the command a table word spells at the front of its queue, unchanged where the word spells none (log 19). -/
def State.withFetchWord (s : State) (nbits w : Nat) : State :=
  match decodeTableWord nbits w with
  | some c => withPending (c :: s.pending) s
  | none => s

end Sys2Proof.Machine
end

