-- ==== Sys2Proof/Safety.lean ====
section
/-! DEFINITION. The terms claims use: when a message is heard, how a command's outcome shows, and the conditions that every
run keeps. -/

namespace Sys2Proof.Machine

open Sys2Proof

/-! ### Messages heard and their outcomes -/

/-- Whether a message sent now reaches its owner: the part is powered, is not SENDING (R166), and no SET_LINK or RESTART waits for its
response (R170). -/
def hears (s : State) : Bool :=
  s.powered && match s.link.receive with
    | .asleep => true
    | .length _ => true
    | .body _ _ _ => true
    | .turnaround _ .nothing => true
    | .turnaround _ (.setLink _ _) => false
    | .turnaround _ .restart => false
    | .sending _ _ => false

/-- The link unit as it prepares a response (R165, R162): TURNAROUND, with the gap timer idle. -/
def answering (s : State) (status : Status) (data : List Byte) (held : Held) : Link :=
  ⟨.turnaround (responseOf s.settings.station status data) held, .idle⟩

/-- The link unit after a broadcast message (R168). -/
def asleep : Link := ⟨.asleep, .idle⟩

/-- The link unit after a command is dispatched. -/
def linkAfter (dest : Dest) (s : State) (status : Status) (data : List Byte) (held : Held) : Link :=
  match dest with
  | .station => answering s status data held
  | .broadcast => asleep

/-- What a refused command leaves: a response with the refusal's code, and nothing else changed (R163). -/
def refusedAs (s : State) (why : Status) : State := { s with link := answering s why [] .nothing }

/-- What a taken command leaves: the state of its effect, with DONE and the data in preparation (R162, R165). -/
def takenAs (s after : State) (data : List Byte) : State := { after with link := answering s .done data .nothing }

/-- Commands and events one after another, each a whole step. -/
def feed : List Instr → State → Host.Outcome State Fault Refusal
  | [], s => .next s
  | c :: rest, s =>
      match exec c s with
      | .next t => feed rest t
      | .fault why => .fault why
      | .refused why => .refused why

/-- The value of a message's address character (8.3). -/
def addressOf (station : Nat) : Dest → Byte
  | .station => BitVec.ofNat 8 station
  | .broadcast => 0#8

/-- The characters of a message, one event each: the address character, the length, the content and the check (8.3). -/
def characters (station : Nat) (dest : Dest) (content : List Byte) : List Instr :=
  let length : Byte := BitVec.ofNat 8 (content.length + 1)
  .addressCharacter (addressOf station dest) ::
    (length :: content ++ [-(byteSum (length :: content))]).map .dataCharacter

/-- The number that `width` bytes of a record spell from a byte on, most significant byte first (R187). -/
def fieldAt (bytes : List Byte) (start width : Nat) : Nat :=
  ((bytes.drop start).take width).foldl (fun n b => n * 256 + b.toNat) 0

/-! ### One record of a table replaced -/

/-- The state with a line unit's record replaced. -/
def putLine (l : Fin 4) (u : LineUnit) (s : State) : State := { s with lines := s.lines.set l u }

/-- The state with a portal's live record replaced. -/
def putPortal (p : Fin 4) (live : PortalLive) (s : State) : State := { s with portals := s.portals.set p live }

/-- The state with an input's live record replaced. -/
def putInput (i : Fin 6) (live : InputLive) (s : State) : State :=
  { s with overrides := { s.overrides with inputs := s.overrides.inputs.set i live } }

/-- The state with the transfer window replaced. -/
def putWindow (w : Option Window) (s : State) : State := { s with roster := { s.roster with window := w } }

/-! ### Releases waiting on a line -/

/-- The line's queue holds the release of the entry in a slot, at its address (R137). -/
def releaseQueued (u : LineUnit) (slot : Fin 256) (address : Fin 64) : Bool :=
  u.queue.any fun r => match r.kind with
    | .release _ => decide (r.slot = slot) && decide (r.address = address)
    | .level _ => false
    | .ident => false

/-- The line's transaction in flight is the release of the entry in a slot, its outcome not yet formed (R153). -/
def releaseInFlight (u : LineUnit) (slot : Fin 256) (address : Fin 64) : Bool :=
  u.inFlight.any fun t => match t.kind with
    | .release _ => decide (t.target = some (slot, address)) && decide (t.phase ≠ .gap)
    | .level _ => false
    | .ident => false
    | .status => false
    | .probe => false

/-! ### Conditions that every run keeps -/

/-- The fault output is released while unpowered, and otherwise as flags and mask form it (R174). -/
def OutputFormed (s : State) : Prop :=
  s.events.output = if s.powered then faultOutputOf s.events.flags s.settings.mask else .released

/-- No two non-FREE entries hold the same line and address (R5). -/
def DistinctChannels (slots : Tbl Entry 256) : Prop :=
  ∀ i j : Fin 256, (slots.get i).state ≠ .free → (slots.get j).state ≠ .free →
    (slots.get i).line = (slots.get j).line → (slots.get i).address = (slots.get j).address → i = j

/-- The conflict check's promise holds in working memory, in the image and in the snapshot being written (R5, R179). -/
def RosterDistinct (s : State) : Prop :=
  DistinctChannels s.roster.slots ∧ DistinctChannels s.store.image.slots ∧
    ∀ snapshot, s.store.state = .writing snapshot → DistinctChannels snapshot.slots

/-- No two requests of a queue are for the same address (R134). -/
def OnePerAddress (queue : List Request) : Prop := (queue.map (·.address)).Nodup

/-- Each line's level queue holds at most one request for each address (R134). -/
def QueuesKeyed (s : State) : Prop := ∀ l : Fin 4, OnePerAddress (s.lines.get l).queue

/-- What a line drives is the frame of its transaction while that is in its FORWARD phase, and nothing otherwise (R129, R188). -/
def DrivesForward (s : State) : Prop :=
  ∀ l : Fin 4, (s.lines.get l).driving =
    match (s.lines.get l).inFlight with
    | some t => if t.phase = .forward then some (frameOf t.kind t.target) else none
    | none => none

/-- While a write goes on and after one that failed, the completion record is incomplete (R180, R181). -/
def UnfinishedIsBad (s : State) : Prop := s.store.state ≠ .idle → s.store.complete = false

/-- No stage in use is commanded above the stage outside it (R89). -/
def StagesDescend (c : PortalConfig) (live : PortalLive) : Prop :=
  ∀ i j : Fin 8, j.val = i.val + 1 → j.val < c.stageCount → (live.stages.get j).q ≤ (live.stages.get i).q

/-- The commanded luminances of every portal descend inward (R89). -/
def EntrancesDescend (s : State) : Prop := ∀ p : Fin 4, StagesDescend (s.settings.portals.get p) (s.portals.get p)

/-- An open window's cursor lies between its first slot and one past its last slot, and its slots exist (R27). -/
def WindowBounded (s : State) : Prop :=
  ∀ w, s.roster.window = some w → w.first ≤ w.cursor ∧ w.cursor ≤ w.last + 1 ∧ w.last ≤ 255

/-! ### The ranges of the settings -/

/-- A calibration within the ranges of R36. -/
def Calibration.InRange (c : Calibration) : Prop :=
  c.offset ≤ 1023 ∧ 1 ≤ c.gain ∧ c.gain ≤ 65535 ∧ c.lowLimit ≤ c.highLimit ∧ c.highLimit ≤ 99999

/-- A portal's configuration within the ranges of R55 and R77. -/
def PortalConfig.InRange (c : PortalConfig) : Prop :=
  (c.primary = c.secondary → c.primary = none) ∧ (1 ≤ c.k ∧ c.k ≤ 200) ∧
    (c.lthMin ≤ c.lthCap ∧ c.lthFallback ≤ c.lthCap ∧ c.lthCap ≤ 99999) ∧ (1 ≤ c.w ∧ c.w ≤ 256) ∧
    (1 ≤ c.up ∧ c.up ≤ 1000) ∧ (1 ≤ c.dn ∧ c.dn ≤ 1000) ∧ c.deadBand ≤ 100 ∧ c.fallHoldLength ≤ 255 ∧
    (1 ≤ c.staleLimit ∧ c.staleLimit ≤ 15) ∧ (1 ≤ c.holdLimit ∧ c.holdLimit ≤ 255) ∧
    (1 ≤ c.recoverCount ∧ c.recoverCount ≤ 15) ∧ (1 ≤ c.disagreement ∧ c.disagreement ≤ 1000) ∧ c.uMin ≤ 2000 ∧
    (250 ≤ c.updateInterval ∧ c.updateInterval ≤ 10000 ∧ c.updateInterval % 250 = 0) ∧
    (1 ≤ c.stageCount ∧ c.stageCount ≤ 8) ∧
    ∀ j : Fin 8, (c.stages.get j).f ≤ 1000 ∧ (c.stages.get j).floor ≤ 99999

/-- A curve's points as R106 has them. -/
def Curve.InRange (c : Curve) : Prop :=
  c.get 0 = 0 ∧ c.get 16 ≤ 1023 ∧ ∀ i j : Fin 17, j.val = i.val + 1 → 1 ≤ c.get j ∧ c.get i ≤ c.get j

/-- A maintenance table as SET_MAINTENANCE checks it (R96); the upper end of the thresholds, 65,535, is the width of the message's field
(R95, R186). -/
def maintenanceInRange (rows : List MaintenanceRow) : Prop :=
  (1 ≤ rows.length ∧ rows.length ≤ 8) ∧ (rows.map (·.threshold)).head? = some 0 ∧
    rows.Pairwise (fun a b => a.threshold < b.threshold) ∧ ∀ r ∈ rows, 500 ≤ r.factor ∧ r.factor ≤ 1000

/-- Compute settings within the ranges of R93. -/
def Compute.InRange (c : Compute) : Prop :=
  (300 ≤ c.thermal ∧ c.thermal ≤ 1000) ∧ 2000 ≤ c.ceiling ∧ c.ceiling ≤ 10000

/-- Every setting within its range, the maintenance thresholds among them (R95). -/
def Settings.InRange (g : Settings) : Prop :=
  (∀ ch, (g.channels.get ch).InRange) ∧ (100 ≤ g.scanInterval ∧ g.scanInterval ≤ 5000 ∧ g.scanInterval % 50 = 0) ∧
    (∀ p, (g.portals.get p).InRange) ∧ (∀ cls, Curve.InRange (g.curves.get cls)) ∧ maintenanceInRange g.maintenance ∧
    (∀ r ∈ g.maintenance, r.threshold ≤ 65535) ∧ g.compute.InRange ∧ (1 ≤ g.missLimit ∧ g.missLimit ≤ 7) ∧ 1 ≤ g.station ∧ g.station ≤ 31

/-- What a response holds back is in range (R169). -/
def Held.InRange : Held → Prop
  | .nothing => True
  | .setLink station _ => 1 ≤ station ∧ station ≤ 31
  | .restart => True

/-- Every waiting command is one that a message can carry: each field fits its width (R186). -/
def WaitingFit (s : State) : Prop := ∀ c ∈ s.pending, c.wf = true

/-- The settings in working memory, in the image, in a snapshot being written and in a SET_LINK held back are all in range, and the
waiting commands fit their messages. -/
def RangesHold (s : State) : Prop :=
  WaitingFit s ∧ s.settings.InRange ∧ s.store.image.settings.InRange ∧
    (∀ snapshot, s.store.state = .writing snapshot → snapshot.settings.InRange) ∧
    ∀ r held, s.link.receive = .turnaround r held ∨ s.link.receive = .sending r held → held.InRange

/-! ### The ranges of the roster -/

/-- An entry as R2 has it: every FREE value while FREE; otherwise q from 1 to 9,999; age to 65,535, sub-count to 99, pin and levels to
1,023, a miss count at most the limit (R13), and unreachable in PROVISIONAL and SUSPENDED alone. -/
def Entry.InRange (limit : Nat) (e : Entry) : Prop :=
  (e.state = .free → e = Entry.freed) ∧ (e.state ≠ .free → 1 ≤ e.q ∧ e.q ≤ 9999) ∧ e.age ≤ 65535 ∧ e.sub ≤ 99 ∧
    (∀ code, e.pin = some code → code ≤ 1023) ∧ e.miss ≤ limit ∧ e.setLevel ≤ 1023 ∧
    (∀ level, e.confirmed = some level → level ≤ 1023) ∧
    (e.unreachable = true → e.state = .provisional ∨ e.state = .suspended)

/-- Every entry is in range under the miss limit beside it: in working memory, in the image and in a snapshot being written. -/
def EntriesInRange (s : State) : Prop :=
  (∀ k : Fin 256, (entryAt s k).InRange s.settings.missLimit) ∧
    (∀ k : Fin 256, (s.store.image.slots.get k).InRange s.store.image.settings.missLimit) ∧
    ∀ snapshot, s.store.state = .writing snapshot →
      ∀ k : Fin 256, (snapshot.slots.get k).InRange snapshot.settings.missLimit

end Sys2Proof.Machine
end

