-- ==== Sys2Proof/Certificates/Slice0/Obligations.lean ====
section
/-! DEFINITION. The statements for the provers, block by block: what each command and event does, the rules of the
computations behind them, and the conditions that every step keeps. -/

open Sys2Proof Sys2Proof.Machine

/-! ### The machine -/

/-- The command at the front of the queue is the step, carried out on the rest of the queue; on an empty queue the block
idles (the queue is the model's, log 3). -/
def Obligations.StepTakesFrontCommand : Prop :=
  (∀ (c : Instr) (rest : List Instr) (s : State),
    step { s with pending := c :: rest } = exec c { s with pending := rest }) ∧
  ∀ s : State, s.pending = [] → step s = .next s

/-- No command and no event stops the part: each answers a next state, and none touches the waiting commands. Where an event has no occasion
(log 2) or the part is unpowered (log 16, input levels apart), that the next state is the state as it stands is the model's choice, as
the queue of waiting commands is (log 3, 19). -/
def Obligations.EveryCommandCompletes : Prop :=
  ∀ (c : Instr) (s : State), ∃ t, exec c s = .next t ∧ t.pending = s.pending

/-- The state after the first full reset of a part whose store was never written: the factory defaults of 10.4, an empty
roster with every mark set, every block at the reset values of its chapter, and STORE_BAD set with the fault output
asserted (log 4). The timers' lengths stand for "started" (log 3). -/
def Obligations.ResetState : Prop :=
  let s := State.reset
  s.powered = true ∧
  (∀ ch, s.settings.channels.get ch = ⟨0, 256, 0, 99999⟩) ∧
  (∀ i : Fin 8, s.settings.scanList.get i = some i) ∧ s.settings.scanInterval = 500 ∧
  (∀ p : Fin 4, let c := s.settings.portals.get p
    c.role = .entrance ∧ (c.primary.map (·.val), c.secondary.map (·.val)) = (some (2 * p.val), some (2 * p.val + 1)) ∧
    (c.k, c.lthMin, c.lthCap, c.lthFallback) = (50, 20, 3000, 3000) ∧ (c.w, c.up, c.dn, c.deadBand) = (32, 200, 20, 10) ∧
    (c.fallHoldLength, c.staleLimit, c.holdLimit, c.recoverCount) = (30, 5, 60, 3) ∧
    (c.disagreement, c.uMin, c.updateInterval) = (300, 100, 1000) ∧ c.stageCount = 5 ∧
    c.stages.cells = [⟨1000, 60⟩, ⟨500, 60⟩, ⟨250, 60⟩, ⟨100, 60⟩, ⟨0, 60⟩, ⟨0, 0⟩, ⟨0, 0⟩, ⟨0, 0⟩]) ∧
  (∀ cls, (s.settings.curves.get cls).cells =
    [0, 64, 128, 192, 256, 320, 384, 448, 512, 575, 639, 703, 767, 831, 895, 959, 1023]) ∧
  s.settings.maintenance = [⟨0, 1000⟩] ∧ s.settings.compute = ⟨.nearest, 700, 6000⟩ ∧
  (∀ i, s.settings.inputs.get i = ⟨.none, 0#4, .level, .activeEnergised⟩) ∧
  s.settings.mask = flagBit .entryRecovered ||| flagBit .forceOn ∧ (∀ l, s.settings.enables.get l = true) ∧
  s.settings.missLimit = 3 ∧ (s.settings.station, s.settings.baud) = (31, .b19200) ∧
  (∀ k, entryAt s k = Entry.freed) ∧ s.roster.marks = BitVec.allOnes 32 ∧ s.roster.window = none ∧
  s.roster.ageTick.isRunning = true ∧ (∀ ch, s.scanner.readings.get ch = ⟨none, .none, 0#8⟩) ∧ s.scanner.scan = none ∧
  s.scanner.timer = .running 500 ∧
  (∀ p, let live := s.portals.get p
    live.control = .start ∧ live.filtered = 0 ∧ live.seeded = false ∧ live.trend = .flat ∧
    (live.fallHold, live.holdCount, live.goodCount) = (0, 0, 0) ∧ (live.cause, live.priorCause) = (.none, .none) ∧
    live.manualLth = 0 ∧ live.disagreeing = false ∧ live.riseJump = true ∧
    (live.controlLth, live.appliedLth) = (3000, 3000) ∧ (live.primarySight, live.secondarySight) = (⟨none, 0⟩, ⟨none, 0⟩) ∧
    live.stages.cells.map (fun st => (st.requirement, st.q)) =
      [(3000, 3000), (1500, 1500), (750, 750), (300, 300), (60, 60), (0, 0), (0, 0), (0, 0)] ∧
    (∀ j, let st := live.stages.get j
      (st.capacity, st.u, st.shortfall, st.flags) = (0, 0, 0, StageFlags.clear)) ∧
    live.updated = false ∧ live.timer = .running 1000) ∧
  (∀ i, let input := s.overrides.inputs.get i
    input.accepted = none ∧ input.debounce = some ⟨input.physical, .running 40⟩) ∧
  (s.overrides.forceLatch, s.overrides.limitLatch, s.overrides.freeze) = (0#4, 0#4, 0#4) ∧
  (∀ l, let u := s.lines.get l
    u.faulted = false ∧ u.queue = [] ∧ u.cursor = 0 ∧ (u.contentions, u.run) = (0, 0) ∧ u.inFlight = none ∧
    u.faultWait = .idle ∧ lineState s l = .idle) ∧
  s.link = asleep ∧ s.events = ⟨flagBit .storeBad, .released⟩ ∧ s.store.state = .idle ∧ s.store.complete = false ∧
  s.pending = []

/-- A full reset loads a good image, and with a bad one takes the factory defaults, 256 FREE slots and STORE_BAD; either way every
block starts from its reset values, each line considers its first transaction, and the image stays as it is. A portal starts lit for its
role: the applied Lth is Lth_fallback for an ENTRANCE and 0 for an EXIT or CLOSED portal, each stage in use stands at its requirement, and
an unused position holds zeros. -/
def Obligations.FullResetResult : Prop :=
  (∀ s : State,
     let good := imageGood s.store
     let settings := if good then s.store.image.settings else Settings.defaults
     let slots := if good then s.store.image.slots.map Entry.atReset else Tbl.fill 256 Entry.freed
     let flags := if good then 0#48 else flagBit .storeBad
     exec .fullReset s = .next (considerAll
       { powered := true
         settings := settings
         roster := ⟨slots, BitVec.allOnes 32, none, .running 360000⟩
         scanner := ⟨Tbl.fill 8 ⟨none, .none, 0#8⟩, none, .running settings.scanInterval⟩
         portals := settings.portals.map (portalAtReset settings.compute.mode)
         overrides := ⟨s.overrides.inputs.map fun i => ⟨i.physical, none, some ⟨i.physical, .running 40⟩⟩, 0#4, 0#4, 0#4⟩
         lines := Tbl.fill 4 LineUnit.initial
         link := asleep
         events := ⟨flags, faultOutputOf flags settings.mask⟩
         store := { s.store with state := .idle }
         pending := s.pending })) ∧
  ∀ (mode : Rounding) (c : PortalConfig),
    let applied := if c.role = .entrance then c.lthFallback else 0
    ∃ stages : Tbl Stage 8,
      portalAtReset mode c =
        { control := .start, filtered := 0, seeded := false, trend := .flat, fallHold := 0, holdCount := 0, goodCount := 0,
          cause := .none, priorCause := .none, manualLth := 0, disagreeing := false, riseJump := true,
          controlLth := c.lthFallback, appliedLth := applied, primarySight := ⟨none, 0⟩, secondarySight := ⟨none, 0⟩,
          stages := stages, updated := false, timer := .running c.updateInterval } ∧
      ∀ j : Fin 8, let r := (requirements mode c applied).getD j.val 0
        stages.get j = if j.val < c.stageCount then ⟨r, r, 0, 0, 0, StageFlags.clear⟩
          else ⟨0, 0, 0, 0, 0, StageFlags.clear⟩

/-- A loss of the supply stops the link, the lines and a store write, and releases the fault output. Every command and event but a
power-on then leaves the part as it is (the model's choice, log 16), save that a physical input level moves outside it, so that the full
reset begins that input's debounce toward the level as it then stands. That a FAILED store too is IDLE in between is the model's choice,
log 27. -/
def Obligations.PowerLossStopsPart : Prop :=
  (∀ s : State, ∃ t, exec .powerLoss s = .next t ∧ t.powered = false ∧ t.events.output = .released ∧ t.link = asleep ∧
    (∀ l, (t.lines.get l).inFlight = none ∧ (t.lines.get l).driving = none) ∧ t.store = { s.store with state := .idle } ∧
    t.settings = s.settings ∧ t.roster = s.roster ∧ t.events.flags = s.events.flags ∧ t.pending = s.pending) ∧
  (∀ (c : Instr) (s : State), s.powered = false → c ≠ .fullReset → c ≠ .powerLoss → (∀ i level, c ≠ .inputLevelChange i level) →
    exec c s = .next s) ∧
  ∀ (s : State) (i : Fin 6) (level : InputLevel), s.powered = false →
    ∃ moved, moved = putInput i { s.overrides.inputs.get i with physical := level } s ∧
      exec (.inputLevelChange i level) s = .next moved ∧
      ∀ t, exec .fullReset moved = .next t → t.overrides.inputs.get i = ⟨level, none, some ⟨level, .running 40⟩⟩

/-- Every rounded division: NEAREST takes the nearer integer and a tie to the even one, TOWARD_ZERO discards the fraction, AWAY takes
the next integer where there is a fraction; a signed quotient rounds as its magnitude does, with its sign. -/
def Obligations.DivisionRule : Prop :=
  ∀ x y : Nat, 0 < y →
    divRound .towardZero x y = x / y ∧
    (divRound .away x y * y < x + y ∧ x ≤ divRound .away x y * y) ∧
    (2 * x ≤ 2 * (divRound .nearest x y * y) + y ∧ 2 * (divRound .nearest x y * y) ≤ 2 * x + y ∧
      (2 * (x % y) = y → divRound .nearest x y % 2 = 0)) ∧
    ∀ mode, divRoundInt mode (x : Int) y = divRound mode x y ∧ divRoundInt mode (-(x : Int)) y = -(divRound mode x y : Int)

/-! ### The supervisory link -/

/-- Characters received. An address character that is not spoiled, in every receive state that reads one and in which no SET_LINK or RESTART
waits for its response: the station held and 0 wake the link unit, abandoning a message and cancelling a response, and any other value puts
it to sleep; while SENDING it is not read. A data character in LENGTH is the length, from 2 to 250, and otherwise discards the message; in
BODY it is kept until the last; in ASLEEP, TURNAROUND and SENDING it is not read. A spoiled character discards a message being received and
is otherwise not read, and the gap timer's expiry abandons the message. -/
def Obligations.CharactersReceived : Prop :=
  (∀ (s : State) (value : Byte), 1 ≤ s.settings.station →
     (hears s = true →
       exec (.addressCharacter value) s = .next { s with link :=
         if value = 0#8 then ⟨.length .broadcast, .running 5⟩
         else if value.toNat = s.settings.station then ⟨.length .station, .running 5⟩
         else asleep }) ∧
     ∀ r held, s.link.receive = .sending r held → exec (.addressCharacter value) s = .next s) ∧
  ∀ (s : State) (value : Byte), s.powered = true →
    (∀ dest, s.link.receive = .length dest →
      exec (.dataCharacter value) s = .next { s with link :=
        if 2 ≤ value.toNat ∧ value.toNat ≤ 250 then ⟨.body dest value.toNat [], .running 5⟩ else asleep }) ∧
    (∀ dest n got, s.link.receive = .body dest n got → got.length + 1 < n →
      exec (.dataCharacter value) s = .next { s with link := ⟨.body dest n (got ++ [value]), .running 5⟩ }) ∧
    (s.link.receive = .asleep → exec (.dataCharacter value) s = .next s) ∧
    (∀ r held, s.link.receive = .turnaround r held ∨ s.link.receive = .sending r held →
      exec (.dataCharacter value) s = .next s) ∧
    exec .spoiledCharacter s = .next (match s.link.receive with
      | .length _ => { s with link := asleep }
      | .body _ _ _ => { s with link := asleep }
      | .asleep => s
      | .turnaround _ _ => s
      | .sending _ _ => s) ∧
    (s.link.gap.isRunning = true → exec .gapTimerExpiry s = .next { s with link := asleep })


/-- The characters of a response, and the 14 bytes of an entry record. A response: address character, length, status by its code (12.2),
data and check. A record: its slot first; its descriptive fields where WRITE_NEXT reads them; state and health by their codes, unreachable,
pin, set level, miss count and confirmed level in the bits of 12.4, with every read-as-zero bit 0 (an absent pin's code bits too: inferred
from R185, log 28); and a FREE slot's every byte after the first 0. -/
def Obligations.ResponseAndRecordLayout : Prop :=
  let code (status : Status) : Byte :=
    match status with
    | .done => 0#8
    | .format => 1#8
    | .range => 2#8
    | .state => 3#8
    | .conflict => 4#8
    | .full => 5#8
    | .busy => 6#8
    | .window => 7#8
  let stateCode (state : EntryState) : Nat :=
    match state with
    | .free => 0
    | .provisional => 1
    | .active => 2
    | .suspended => 3
    | .retiring => 4
  (∀ status : Status, statusCode status = code status) ∧
  (∀ (station : Nat) (status : Status) (data : List Byte), ∃ length check,
    (responseOf station status data).address.toNat = (128 + station) % 256 ∧
    (responseOf station status data).body = length :: code status :: (data ++ [check]) ∧
    length.toNat = (data.length + 2) % 256 ∧ byteSum (responseOf station status data).body = 0#8) ∧
  (∀ (k : Fin 256) (e : Entry),
    (entryRecordBytes k e).length = 14 ∧ (entryRecordBytes k e).head? = some (BitVec.ofNat 8 k.val) ∧
    ∃ r, decodeRecords (entryRecordBytes k e) = some [r] ∧ r.state.val = stateCode e.state ∧ r.line = e.line ∧
      r.address = e.address ∧ r.portal = e.portal ∧ r.stage = e.stage ∧ r.cls = e.cls ∧ r.q = e.q % 65536 ∧
      r.age = e.age % 65536 ∧ r.pin.map (·.val) = e.pin.map (· % 1024)) ∧
  (∀ (k : Fin 256) (e : Entry),
    let group (start width : Nat) : BitVec 16 := BitVec.ofNat 16 (fieldAt (entryRecordBytes k e) start width)
    let status := group 1 1
    let optional (g : BitVec 16) (code : Option Nat) : Prop :=
      match code with
      | none => g = 0#16
      | some n => g.getLsbD 15 = true ∧ g.extractLsb' 10 5 = 0#5 ∧ g.extractLsb' 0 10 = BitVec.ofNat 10 n
    (status.extractLsb' 0 3).toNat = stateCode e.state ∧
    (status.extractLsb' 3 3).toNat = (match e.health with
      | .unknown => 0
      | .ok => 1
      | .derated => 2
      | .lampFail => 3
      | .gearFail => 4
      | .lost => 5) ∧
    status.getLsbD 6 = e.unreachable ∧ status.getLsbD 7 = false ∧ (group 3 1).getLsbD 7 = false ∧
    optional (group 8 2) e.pin ∧ (group 10 2).extractLsb' 0 10 = BitVec.ofNat 10 e.setLevel ∧
    (group 10 2).extractLsb' 10 3 = BitVec.ofNat 3 e.miss ∧ (group 10 2).extractLsb' 13 3 = 0#3 ∧
    optional (group 12 2) e.confirmed) ∧
  ∀ k : Fin 256, (entryRecordBytes k Entry.freed).tail = List.replicate 13 0#8

/-- Where each field of the other records stands, as the number that its bytes spell (12.3, 12.4): the channel record, READ_TABLES' data,
READ_LINE's data with the line state (0 DISABLED, 3 FAULTED, 2 ACTIVE while an entry holds the line or a request waits, 1 IDLE), the
per-input and per-portal parts of READ_INPUTS' data (an idle debounce's candidate is 0 by the model's inference from R185, log 11), the
status summary, the changed marks, and the portal record (each position's last seen beside its staleness is the model's reading, log 17). -/
def Obligations.RecordLayouts : Prop :=
  ∀ s : State,
    let laidOut (bytes : List Byte) (fields : List (Nat × Nat × Nat)) : Prop :=
      ∀ field ∈ fields, fieldAt bytes field.1 field.2.1 = field.2.2 % 256 ^ field.2.1
    let channelOr (c : Option (Fin 8)) : Nat := (c.map (·.val)).getD 0xFF
    let yes (b : Bool) : Nat := if b then 1 else 0
    let stateOf (l : Fin 4) : Nat :=
      if s.settings.enables.get l = false then 0
      else if (s.lines.get l).faulted = true then 3
      else if (∃ k, (entryAt s k).state ≠ .free ∧ (entryAt s k).line = l) ∨ (s.lines.get l).queue ≠ [] then 2
      else 1
    let level (v : InputLevel) : Nat := match v with | .deenergised => 0 | .energised => 1
    let masks (bytes : List Byte) (start : Nat) (mask : BitVec 48) : Prop :=
      ∀ i : Fin 48, (BitVec.ofNat 8 (fieldAt bytes (start + i.val / 8) 1)).getLsbD (i.val % 8) = mask.getLsbD i.val
    (∀ (marks : BitVec 32) (i : Fin 32),
      (BitVec.ofNat 8 (fieldAt (maskBytes4 marks) (i.val / 8) 1)).getLsbD (i.val % 8) = marks.getLsbD i.val) ∧
    (∀ ch : Fin 8, let cal := s.settings.channels.get ch
      let r := s.scanner.readings.get ch
      (channelRecordBytes s ch).length = 26 ∧
      laidOut (channelRecordBytes s ch)
        [(0, 2, cal.offset), (2, 2, cal.gain), (4, 3, cal.lowLimit), (7, 3, cal.highLimit),
          (10, 3, r.luminance.getD 0xFFFFFF),
          (13, 1, match r.status with | .none => 0 | .valid => 1 | .saturated => 2 | .invalid => 3 | .implausible => 4),
          (14, 1, r.number.toNat), (23, 2, s.settings.scanInterval), (25, 1, yes s.scanner.scan.isSome)] ∧
      ∀ i : Fin 8, laidOut (channelRecordBytes s ch) [(15 + i.val, 1, channelOr (s.settings.scanList.get i))]) ∧
    (∀ (curve : Curve) (rows : List MaintenanceRow) (c : Compute), rows.length ≤ 8 →
      (tablesBytes curve rows c).length = 72 ∧ (∀ i : Fin 17, laidOut (tablesBytes curve rows c) [(2 * i.val, 2, curve.get i)]) ∧
      laidOut (tablesBytes curve rows c)
        [(34, 1, rows.length), (67, 1, match c.mode with | .nearest => 0 | .towardZero => 1 | .away => 2),
          (68, 2, c.thermal), (70, 2, c.ceiling)] ∧
      ∀ i : Fin 8, laidOut (tablesBytes curve rows c)
        [(35 + 4 * i.val, 2, (rows[i.val]?.map (·.threshold)).getD 0), (37 + 4 * i.val, 2, (rows[i.val]?.map (·.factor)).getD 0)]) ∧
    (∀ l : Fin 4, let u := s.lines.get l
      (lineBytes s l).length = 13 ∧
      laidOut (lineBytes s l)
        [(0, 1, yes (s.settings.enables.get l)), (1, 1, s.settings.missLimit), (2, 1, stateOf l), (3, 1, u.queue.length),
          (4, 1, u.contentions), (5, 1, u.run), (6, 2, u.cursor.val)] ∧
      (u.inFlight = none → laidOut (lineBytes s l) [(8, 1, 0xFF), (9, 2, 0), (11, 1, 0), (12, 1, 0)]) ∧
      ∀ t, u.inFlight = some t → laidOut (lineBytes s l)
        [(8, 1, match t.kind with | .level _ => 0 | .release _ => 1 | .ident => 2 | .status => 3 | .probe => 4),
          (9, 2, match t.target with | some (k, _) => k.val | none => 0xFFFF),
          (11, 1, match t.target with | some (_, a) => a.val | none => 127),
          (12, 1, match t.phase with | .forward => 0 | .window => 1 | .backward => 2 | .gap => 3)]) ∧
    ((inputsBytes s).length = 74 ∧
      (∀ i : Fin 6, let r := s.settings.inputs.get i
        let live := s.overrides.inputs.get i
        let at_ := 9 * i.val
        laidOut (inputsBytes s)
          [(at_, 1, match r.function with | .none => 0 | .force => 1 | .limit => 2), (at_ + 1, 1, r.mask.toNat),
            (at_ + 2, 1, match r.sense with | .level => 0 | .edge => 1),
            (at_ + 3, 1, match r.polarity with | .activeEnergised => 0 | .activeDeenergised => 1),
            (at_ + 4, 1, level live.physical), (at_ + 5, 1, match live.accepted with | some v => level v | none => 2),
            (at_ + 6, 1, yes (inputAsserted s i)), (at_ + 7, 1, yes live.debounce.isSome),
            (at_ + 8, 1, match live.debounce with | some d => level d.candidate | none => 0)]) ∧
      ∀ p : Fin 4, let at_ := 54 + 5 * p.val
        laidOut (inputsBytes s)
          [(at_, 1, yes (s.overrides.forceLatch.getLsbD p.val)), (at_ + 1, 1, yes (s.overrides.limitLatch.getLsbD p.val)),
            (at_ + 2, 1, yes (frozen s p)), (at_ + 3, 1, yes (forceActive s p)), (at_ + 4, 1, yes (limitActive s p))]) ∧
    (statusBytes s).length = 38 ∧ masks (statusBytes s) 0 s.events.flags ∧ masks (statusBytes s) 6 s.settings.mask ∧
    laidOut (statusBytes s)
      [(12, 1, match s.events.output with | .conducting => 0 | .released => 1),
        (13, 1, match s.store.state with | .idle => 0 | .writing _ => 1 | .failed => 2)] ∧
    (∀ p : Fin 4, let at_ := 14 + 5 * p.val
      laidOut (statusBytes s)
        [(at_, 1, match (s.settings.portals.get p).role with | .entrance => 0 | .exit => 1 | .closed => 2),
          (at_ + 1, 1, match (s.portals.get p).control with
            | .start => 0 | .auto => 1 | .hold => 2 | .fallback => 3 | .manual => 4),
          (at_ + 2, 1, yes (forceActive s p)), (at_ + 3, 1, yes (limitActive s p)), (at_ + 4, 1, yes (frozen s p))]) ∧
    (∀ l : Fin 4, laidOut (statusBytes s) [(34 + l.val, 1, stateOf l)]) ∧
    ∀ (c : PortalConfig) (live : PortalLive), c.stageCount ≤ 8 →
      let bytes := portalRecordBytes c live
      let cause (v : Cause) : Nat × Nat :=
        match v with
        | .none => (0, 0xFF)
        | .invalid ch => (1, ch.val)
        | .implausible ch => (2, ch.val)
        | .stale ch => (3, ch.val)
        | .noChannel => (4, 0xFF)
      let sight (assigned : Option (Fin 8)) (v : Sight) : Nat × Nat :=
        if assigned = none then (0xFFFF, 0) else ((v.lastSeen.map (·.toNat)).getD 0xFFFF, v.staleness)
      bytes.length = 61 + 20 * c.stageCount ∧
      laidOut bytes
        [(0, 1, match c.role with | .entrance => 0 | .exit => 1 | .closed => 2), (1, 1, channelOr c.primary),
          (2, 1, channelOr c.secondary), (3, 1, c.k), (4, 3, c.lthMin), (7, 3, c.lthCap), (10, 3, c.lthFallback), (13, 2, c.w),
          (15, 2, c.up), (17, 2, c.dn), (19, 1, c.deadBand), (20, 1, c.fallHoldLength), (21, 1, c.staleLimit),
          (22, 1, c.holdLimit), (23, 1, c.recoverCount), (24, 2, c.disagreement), (26, 2, c.uMin), (28, 2, c.updateInterval)] ∧
      laidOut bytes
        [(30, 1, match live.control with | .start => 0 | .auto => 1 | .hold => 2 | .fallback => 3 | .manual => 4),
          (31, 3, live.filtered), (34, 1, yes live.seeded),
          (35, 1, match live.trend with | .flat => 0 | .rising => 1 | .falling => 2), (36, 1, live.fallHold),
          (37, 1, live.holdCount), (38, 1, live.goodCount), (39, 1, (cause live.cause).1), (40, 1, (cause live.cause).2),
          (41, 1, (cause live.priorCause).1), (42, 1, (cause live.priorCause).2), (43, 3, live.manualLth),
          (46, 1, yes live.disagreeing), (47, 1, yes live.riseJump), (48, 3, live.controlLth), (51, 3, live.appliedLth),
          (54, 2, (sight c.primary live.primarySight).1), (56, 1, (sight c.primary live.primarySight).2),
          (57, 2, (sight c.secondary live.secondarySight).1), (59, 1, (sight c.secondary live.secondarySight).2),
          (60, 1, c.stageCount)] ∧
      ∀ j : Fin 8, j.val < c.stageCount →
        let at_ := 61 + 20 * j.val
        let st := live.stages.get j
        laidOut bytes
          [(at_, 2, (c.stages.get j).f), (at_ + 2, 3, (c.stages.get j).floor), (at_ + 5, 3, st.requirement), (at_ + 8, 3, st.q),
            (at_ + 11, 3, st.capacity), (at_ + 14, 2, st.u), (at_ + 16, 3, st.shortfall),
            (at_ + 19, 1, yes st.flags.short + 2 * yes st.flags.dark + 4 * yes st.flags.limited + 8 * yes st.flags.minHeld +
              16 * yes st.flags.forced)]

/-- A command that a message carries and its owner refuses changes nothing but the link unit, which holds a response with the
refusal's code and no data; one that is taken leaves the owner's effect and DONE with the owner's data, under the station held
before it. A broadcast one is answered by nothing. A taken command closes an open transfer window, unless it is OPEN_WINDOW or the
READ_NEXT or WRITE_NEXT that matches it. -/
def Obligations.CommandAnswered : Prop :=
  ∀ (c : Instr) (dest : Dest) (content : List Byte) (s : State), encodeMessage c = some (dest, content) →
    hears s = true →
      (∀ why, owner c s = .refused why → exec c s = .next { s with link := linkAfter dest s why [] .nothing }) ∧
      ∀ after data held, owner c s = .taken after data held →
        exec c s = .next { after with link := linkAfter dest s .done data held } ∧
        (after.roster.window = none ∨ (∃ first last direction, c = .openWindow first last direction) ∨
          (∃ records, c = .writeNext records) ∨ ∃ count, c = .readNext count)

/-- While the store is WRITING, each command that the summary of 8.9 lists as BUSY is refused, whatever its fields. -/
def Obligations.BusyCommandsNotTaken : Prop :=
  ∀ (c : Instr) (s : State), storeWriting s = true →
    (match c with
      | .enter _ _ _ _ _ _ _ _ _ | .amend _ _ _ _ _ _ _ _ _ | .suspend _ | .resume _ | .retire _ | .writeNext _
      | .setChannel _ _ _ _ _ | .setScan _ _ | .setPortal _ _ | .setRole _ _ | .setStages _ _ _ | .setCompute _ _ _
      | .setMaintenance _ _ | .setCurve _ _ | .setInput _ _ _ _ _ | .setLines _ _ | .setLink _ _ | .setMask _ | .store
      | .restart => True
      | _ => False) → ∃ why, owner c s = .refused why

/-- A message whose check character is received is not carried out where its check is wrong, where it is a broadcast of a command other
than the six override commands (both discarded, with no response), or where its characters are no command by their code or their
length (refused with FORMAT). -/
def Obligations.MessageNotCarriedOut : Prop :=
  ∀ (s : State) (dest : Dest) (n : Nat) (got : List Byte) (value : Byte), s.powered = true →
    s.link.receive = .body dest n got → n ≤ got.length + 1 →
      let good := byteSum (BitVec.ofNat 8 n :: (got ++ [value])) = 0#8
      (¬good → exec (.dataCharacter value) s = .next { s with link := asleep }) ∧
      (dest = .broadcast → (∀ code, got.head? = some code → code.toNat < 0x50 ∨ 0x55 < code.toNat) →
        exec (.dataCharacter value) s = .next { s with link := asleep }) ∧
      (good → dest = .station → decodeMessage .station got = none →
        exec (.dataCharacter value) s = .next (refusedAs s .format))

/-- A whole message received character by character leaves the part as the command it carries does: for every well-formed command, in
every state that hears it. That one command may stand for its whole message is the model's choice (log 1). -/
def Obligations.CharactersCarryCommand : Prop :=
  ∀ (c : Instr) (dest : Dest) (content : List Byte) (s : State), c.wf = true →
    encodeMessage c = some (dest, content) → hears s = true → 1 ≤ s.settings.station → s.settings.station ≤ 31 →
      feed (characters s.settings.station dest content) s = exec c s

/-- Every well-formed command that a message carries is read back from its message, with every operand at every value its field
admits. -/
def Obligations.MessageRoundTrip : Prop :=
  ∀ (c : Instr) (dest : Dest) (content : List Byte), c.wf = true → encodeMessage c = some (dest, content) →
    decodeMessage dest content = some c

/-- A response in preparation begins and is sent; at its end the link unit sleeps, and a SET_LINK that waited for it writes its station and
baud rate, as it does where an address character cancels the response. SET_LINK is refused outside its ranges and while the store is
WRITING; taken, it is answered under the station held, and its settings wait. RESTART likewise waits. Both close an open transfer window.
At the end of its response, and at the response's cancellation by any address character, a RESTART reinitialises every block over the
settings and slots of working memory, loads no image and sets no flag. -/
def Obligations.ResponsesAndHeldEffects : Prop :=
  (∀ (s : State) (r : Response), s.powered = true →
     (∀ held, s.link.receive = .turnaround r held →
       exec .responseStart s = .next { s with link := ⟨.sending r held, .idle⟩ }) ∧
     (s.link.receive = .sending r .nothing → exec .responseEnd s = .next { s with link := asleep }) ∧
     ∀ station baud,
       let after := { s with link := asleep, settings := { s.settings with station := station, baud := baud } }
       (s.link.receive = .sending r (.setLink station baud) → exec .responseEnd s = .next after) ∧
       (s.link.receive = .turnaround r (.setLink station baud) → ∀ value, exec (.addressCharacter value) s = .next after)) ∧
  (∀ s : State, hears s = true →
     (∀ station baud, exec (.setLink station baud) s = .next (
       match baudOf baud with
       | none => refusedAs s .range
       | some rate =>
           if station < 1 ∨ 31 < station then refusedAs s .range
           else if storeWriting s then refusedAs s .busy
           else { closeWindow s with link := answering s .done [] (.setLink station rate) })) ∧
     exec .restart s = .next (
       if storeWriting s then refusedAs s .busy
       else { closeWindow s with link := answering s .done [] .restart })) ∧
  ∀ (s : State) (r : Response), s.powered = true →
    let after := considerAll
      { powered := true
        settings := s.settings
        roster := ⟨s.roster.slots.map Entry.atReset, BitVec.allOnes 32, none, .running 360000⟩
        scanner := ⟨Tbl.fill 8 ⟨none, .none, 0#8⟩, none, .running s.settings.scanInterval⟩
        portals := s.settings.portals.map (portalAtReset s.settings.compute.mode)
        overrides := ⟨s.overrides.inputs.map fun i => ⟨i.physical, none, some ⟨i.physical, .running 40⟩⟩, 0#4, 0#4, 0#4⟩
        lines := Tbl.fill 4 LineUnit.initial
        link := asleep
        events := ⟨0#48, .conducting⟩
        store := { s.store with state := .idle }
        pending := s.pending }
    (s.link.receive = .sending r .restart → exec .responseEnd s = .next after) ∧
    (s.link.receive = .turnaround r .restart → ∀ value, exec (.addressCharacter value) s = .next after)

/-- The 11 bits of a character: a start bit of 0, the eight data bits, least significant first, the mark bit, 1 in an address character
alone, and a stop bit of 1. While SENDING the part sends its response's characters one after another, and nothing otherwise. A received bit
is what at least two of its three samples give; a start bit taken as 1 is a false start, samples that disagree or a stop bit taken as 0
spoil the character, and any other is an address or a data character by its mark bit. -/
def Obligations.CharacterBits : Prop :=
  (∀ (markBit : Bool) (value : Byte), sentCharacter markBit value =
     [false, value.getLsbD 0, value.getLsbD 1, value.getLsbD 2, value.getLsbD 3, value.getLsbD 4, value.getLsbD 5, value.getLsbD 6,
       value.getLsbD 7, markBit, true]) ∧
  (∀ s : State,
     (∀ r held, s.link.receive = .sending r held →
       (pairDriven s).length = 11 * (r.body.length + 1) ∧ (pairDriven s).take 11 = sentCharacter true r.address ∧
       ∀ i value, r.body[i]? = some value → ((pairDriven s).drop (11 * (i + 1))).take 11 = sentCharacter false value) ∧
     ((∀ r held, s.link.receive ≠ .sending r held) → pairDriven s = [])) ∧
  ∀ (start : Samples) (data : Tbl Samples 8) (markBit stop : Samples),
    let one (b : Samples) : Prop := 2 ≤ b.first.toNat + b.second.toNat + b.third.toNat
    let noise (b : Samples) : Prop := ¬(b.first = b.second ∧ b.second = b.third)
    (one start → characterEvent start data markBit stop = none) ∧
    (¬one start → (noise start ∨ (∃ i, noise (data.get i)) ∨ noise markBit ∨ noise stop) ∨ ¬one stop →
      characterEvent start data markBit stop = some .spoiledCharacter) ∧
    (¬one start → ¬(noise start ∨ (∃ i, noise (data.get i)) ∨ noise markBit ∨ noise stop) → one stop →
      ∃ value : Byte, (∀ i : Fin 8, value.getLsbD i.val = true ↔ one (data.get i)) ∧
        (one markBit → characterEvent start data markBit stop = some (.addressCharacter value)) ∧
        (¬one markBit → characterEvent start data markBit stop = some (.dataCharacter value)))

/-- The reads are taken in every state that hears them, the store's WRITING included: each returns its record as it stands, closes an open
transfer window and changes nothing else. A number out of its range is refused with RANGE. FIND returns the slot of the non-FREE entry
that holds the line and address, and 0xFFFF where none does. -/
def Obligations.ReadsReturnRecords : Prop :=
  ∀ s : State, hears s = true →
    (∀ slot, exec (.lookup slot) s = .next (
      if h : slot < 256 then takenAs s (closeWindow s) (entryRecordBytes ⟨slot, h⟩ (entryAt s ⟨slot, h⟩))
      else refusedAs s .range)) ∧
    exec .readMarks s = .next (takenAs s (closeWindow s) (maskBytes4 s.roster.marks)) ∧
    (∀ channel, exec (.readChannel channel) s = .next (
      if h : channel < 8 then takenAs s (closeWindow s) (channelRecordBytes s ⟨channel, h⟩) else refusedAs s .range)) ∧
    (∀ portal, exec (.readPortal portal) s = .next (
      if h : portal < 4 then
        takenAs s (closeWindow s) (portalRecordBytes (s.settings.portals.get ⟨portal, h⟩) (s.portals.get ⟨portal, h⟩))
      else refusedAs s .range)) ∧
    (∀ cls, exec (.readTables cls) s = .next (
      if h : cls < 4 then
        takenAs s (closeWindow s) (tablesBytes (s.settings.curves.get ⟨cls, h⟩) s.settings.maintenance s.settings.compute)
      else refusedAs s .range)) ∧
    (∀ line, exec (.readLine line) s = .next (
      if h : line < 4 then takenAs s (closeWindow s) (lineBytes s ⟨line, h⟩) else refusedAs s .range)) ∧
    exec .readStatus s = .next (takenAs s (closeWindow s) (statusBytes s)) ∧
    exec .readInputs s = .next (takenAs s (closeWindow s) (inputsBytes s)) ∧
    (∀ line address, 4 ≤ line ∨ 64 ≤ address → exec (.find line address) s = .next (refusedAs s .range)) ∧
    ∀ (line : Fin 4) (address : Fin 64),
      (∀ k : Fin 256, DistinctChannels s.roster.slots → (entryAt s k).state ≠ .free → (entryAt s k).line = line →
        (entryAt s k).address = address →
          exec (.find line.val address.val) s = .next (takenAs s (closeWindow s) [0#8, BitVec.ofNat 8 k.val])) ∧
      ((∀ k, (entryAt s k).state = .free ∨ (entryAt s k).line ≠ line ∨ (entryAt s k).address ≠ address) →
        exec (.find line.val address.val) s = .next (takenAs s (closeWindow s) [0xFF#8, 0xFF#8]))

/-! ### The roster -/

/-- ENTER's checks in their order, and its effect: the chosen slot becomes PROVISIONAL with the fields given, its mark is set, the response
carries the slot, and its line considers its next transaction. The slot that 0xFFFF asks for is the lowest-numbered FREE one, and there
is none exactly where every slot is taken. -/
def Obligations.EnterResult : Prop :=
  (∀ (s : State) (slot line address portal stage cls q age pin : Nat), hears s = true →
     (256 ≤ slot ∧ slot ≠ 0xFFFF ∨ 4 ≤ line ∨ 64 ≤ address ∨ 4 ≤ portal ∨ 8 ≤ stage ∨ 4 ≤ cls ∨ q < 1 ∨ 9999 < q ∨
         1023 < pin ∧ pin ≠ 0xFFFF →
       exec (.enter slot line address portal stage cls q age pin) s = .next (refusedAs s .range)) ∧
     ∀ (l : Fin 4) (a : Fin 64) (p : Fin 4) (st : Fin 8) (c : Fin 4) (code : Option (Fin 1024)) (named : Option (Fin 256)),
       1 ≤ q → q ≤ 9999 →
       exec (.enter ((named.map (·.val)).getD 0xFFFF) l.val a.val p.val st.val c.val q age ((code.map (·.val)).getD 0xFFFF))
           s = .next (
         if ∃ k, named = some k ∧ (entryAt s k).state ≠ .free then refusedAs s .state
         else if ∃ k, named ≠ some k ∧ (entryAt s k).state ≠ .free ∧ (entryAt s k).line = l ∧ (entryAt s k).address = a then
           refusedAs s .conflict
         else
           match named.or (lowestFree s) with
           | none => refusedAs s .full
           | some k =>
               if storeWriting s then refusedAs s .busy
               else
                 let entered : Entry :=
                   { state := .provisional, line := l, address := a, portal := p, stage := st, cls := c, q := q, age := age,
                     sub := 0, pin := code.map (·.val), health := .unknown, miss := 0, unreachable := false,
                     setLevel := (code.map (·.val)).getD 0, confirmed := none }
                 takenAs s (consider l { s with roster :=
                   { s.roster with
                     slots := s.roster.slots.set k entered
                     marks := s.roster.marks ||| blockBit k
                     window := none } }) (to2 k.val))) ∧
  ∀ s : State,
    (∀ k, lowestFree s = some k ↔ (entryAt s k).state = .free ∧ ∀ j, j < k → (entryAt s j).state ≠ .free) ∧
    (lowestFree s = none ↔ ∀ k, (entryAt s k).state ≠ .free)

/-- AMEND's refusals in their order, and its effect: every present field is written, the mark is set for each present field but the age, and
a present age clears the sub-count. Where line and address stay as they were, present or not, nothing else changes (the model's reading,
log 13); where they change, verification starts anew, the request queued on the former line is withdrawn, and the new line considers its
next transaction. An absent field's value is ignored. -/
def Obligations.AmendResult : Prop :=
  (∀ (s : State) (k : Fin 256) (present : BitVec 8) (portal stage cls q age line address : Nat) (p : Fin 4) (st : Fin 8)
     (c l : Fin 4) (a : Fin 64),
     hears s = true → storeWriting s = false → present.getLsbD 7 = false →
     (present.getLsbD 0 = true → portal = p.val) → (present.getLsbD 1 = true → stage = st.val) →
     (present.getLsbD 2 = true → cls = c.val) → (present.getLsbD 3 = true → 1 ≤ q ∧ q ≤ 9999) →
     (present.getLsbD 5 = true → line = l.val) → (present.getLsbD 6 = true → address = a.val) →
     let e := entryAt s k
     let moves := present.getLsbD 5 || present.getLsbD 6
     let new : Entry :=
       { e with
         portal := if present.getLsbD 0 then p else e.portal
         stage := if present.getLsbD 1 then st else e.stage
         cls := if present.getLsbD 2 then c else e.cls
         q := if present.getLsbD 3 then q else e.q
         age := if present.getLsbD 4 then age else e.age
         sub := if present.getLsbD 4 then 0 else e.sub
         line := if present.getLsbD 5 then l else e.line
         address := if present.getLsbD 6 then a else e.address }
     e.state = .provisional ∨ e.state = .suspended ∨ e.state = .active ∧ moves = false →
     (moves = true → ∀ j, j ≠ k → (entryAt s j).state = .free ∨ (entryAt s j).line ≠ new.line ∨
       (entryAt s j).address ≠ new.address) →
       let marked := present.getLsbD 0 || present.getLsbD 1 || present.getLsbD 2 || present.getLsbD 3 || moves
       let roster (left : Entry) : Roster :=
         { s.roster with
           slots := s.roster.slots.set k left
           marks := if marked then s.roster.marks ||| blockBit k else s.roster.marks
           window := none }
       exec (.amend k.val present portal stage cls q age line address) s = .next (takenAs s
         (if new.line = e.line ∧ new.address = e.address then { s with roster := roster new }
         else consider new.line
           { s with
             roster := roster
               { new with
                 unreachable := false
                 miss := if e.health = .lost then e.miss else 0
                 confirmed := if e.state = .suspended then none else e.confirmed }
             lines := s.lines.modify e.line fun u =>
               { u with queue := u.queue.filter fun r => decide (r.address ≠ e.address) } }) [])) ∧
  ∀ (s : State) (slot : Nat) (present : BitVec 8) (portal stage cls q age line address : Nat), hears s = true →
    let moves := present.getLsbD 5 || present.getLsbD 6
    let outOfRange := 256 ≤ slot ∨ present.getLsbD 0 ∧ 4 ≤ portal ∨ present.getLsbD 1 ∧ 8 ≤ stage ∨
      present.getLsbD 2 ∧ 4 ≤ cls ∨ present.getLsbD 3 ∧ (q < 1 ∨ 9999 < q) ∨ present.getLsbD 5 ∧ 4 ≤ line ∨
      present.getLsbD 6 ∧ 64 ≤ address
    (present.getLsbD 7 = true →
      exec (.amend slot present portal stage cls q age line address) s = .next (refusedAs s .format)) ∧
    (present.getLsbD 7 = false → outOfRange →
      exec (.amend slot present portal stage cls q age line address) s = .next (refusedAs s .range)) ∧
    ∀ k : Fin 256, k.val = slot → present.getLsbD 7 = false → ¬outOfRange →
      let e := entryAt s k
      let l := if present.getLsbD 5 then line else e.line.val
      let a := if present.getLsbD 6 then address else e.address.val
      (e.state = .free ∨ e.state = .retiring ∨ moves = true ∧ e.state = .active →
        exec (.amend slot present portal stage cls q age line address) s = .next (refusedAs s .state)) ∧
      (e.state = .provisional ∨ e.state = .suspended ∨ e.state = .active ∧ moves = false →
        (moves = true ∧ (∃ j, j ≠ k ∧ (entryAt s j).state ≠ .free ∧ (entryAt s j).line.val = l ∧ (entryAt s j).address.val = a) →
          exec (.amend slot present portal stage cls q age line address) s = .next (refusedAs s .conflict)) ∧
        (storeWriting s = true →
          ¬(moves = true ∧ ∃ j, j ≠ k ∧ (entryAt s j).state ≠ .free ∧ (entryAt s j).line.val = l ∧
            (entryAt s j).address.val = a) →
          exec (.amend slot present portal stage cls q age line address) s = .next (refusedAs s .busy)))

/-- SUSPEND: the entry becomes SUSPENDED, its mark is set, and the request queued for it is withdrawn. RESUME: the SUSPENDED entry becomes
PROVISIONAL with its verification anew, its mark is set, and its line considers its next transaction. Nothing else changes. -/
def Obligations.SuspendAndResume : Prop :=
  (∀ (s : State) (slot : Nat), hears s = true →
     exec (.suspend slot) s = .next (
       if h : slot < 256 then
         let k : Fin 256 := ⟨slot, h⟩
         let e := entryAt s k
         if e.state = .active ∨ e.state = .provisional then
           if storeWriting s then refusedAs s .busy
           else takenAs s
             { s with
               roster :=
                 { s.roster with
                   slots := s.roster.slots.set k { e with state := .suspended }
                   marks := s.roster.marks ||| blockBit k
                   window := none }
               lines := s.lines.modify e.line fun u =>
                 { u with queue := u.queue.filter fun r => decide (r.address ≠ e.address) } } []
         else refusedAs s .state
       else refusedAs s .range)) ∧
  ∀ (s : State) (slot : Nat), hears s = true →
    exec (.resume slot) s = .next (
      if h : slot < 256 then
        let k : Fin 256 := ⟨slot, h⟩
        let e := entryAt s k
        if e.state = .suspended then
          if storeWriting s then refusedAs s .busy
          else takenAs s (consider e.line { s with roster :=
            { s.roster with
              slots := s.roster.slots.set k
                { e with state := .provisional, health := .unknown, confirmed := none, miss := 0, unreachable := false }
              marks := s.roster.marks ||| blockBit k
              window := none } }) []
        else refusedAs s .state
      else refusedAs s .range)

/-- RETIRE: an unreachable PROVISIONAL or SUSPENDED entry, and any on a FAULTED or DISABLED line, is freed at once and reported FREE;
any other becomes RETIRING with set level 0 and is reported so, its release replacing the request queued for its address or joining
the tail, and its line considers its next transaction. The mark is set in each case. -/
def Obligations.RetireResult : Prop :=
  ∀ (s : State) (slot : Nat), hears s = true →
    exec (.retire slot) s = .next (
      if h : slot < 256 then
        let k : Fin 256 := ⟨slot, h⟩
        let e := entryAt s k
        let roster (left : Entry) : Roster :=
          { s.roster with
            slots := s.roster.slots.set k left
            marks := s.roster.marks ||| blockBit k
            window := none }
        if e.state = .free ∨ e.state = .retiring then refusedAs s .state
        else if storeWriting s then refusedAs s .busy
        else if e.unreachable = true ∧ e.state ≠ .active ∨ lineUsable s e.line = false then
          takenAs s { s with roster := roster Entry.freed } [0#8]
        else
          takenAs s (consider e.line
            { s with
              roster := roster { e with state := .retiring, setLevel := 0 }
              lines := s.lines.modify e.line fun u =>
                { u with queue :=
                    if u.queue.any fun r => decide (r.address = e.address) then
                      u.queue.map fun r => if r.address = e.address then ⟨.release 0, k, e.address⟩ else r
                    else u.queue ++ [⟨.release 0, k, e.address⟩] } }) [4#8]
      else refusedAs s .range)

/-- PIN writes the pin and the mark, and the set level unless the entry has failed; for a sound ACTIVE entry on a usable line it hands a
level request whatever the freeze. UNPIN makes the pin absent and sets the mark; the set level and all else stay. LOCATE hands one IDENT
request, which joins the tail of the queue, and changes no entry and no mark; with a request queued for the address it is refused with BUSY.
All three are taken while the store is WRITING. -/
def Obligations.PinUnpinLocate : Prop :=
  (∀ (s : State) (slot code : Nat), hears s = true →
     exec (.pin slot code) s = .next (
       if h : slot < 256 ∧ code ≤ 1023 then
         let k : Fin 256 := ⟨slot, h.1⟩
         let e := entryAt s k
         let failed : Prop := e.health = .lampFail ∨ e.health = .gearFail
         let written : State := { s with roster :=
           { s.roster with
             slots := s.roster.slots.set k { e with pin := some code, setLevel := if failed then e.setLevel else code }
             marks := s.roster.marks ||| blockBit k
             window := none } }
         if e.state = .free ∨ e.state = .retiring then refusedAs s .state
         else if e.state = .active ∧ ¬failed ∧ lineUsable s e.line = true then
           takenAs s (consider e.line
             { written with lines := s.lines.modify e.line fun u =>
               { u with queue := enqueue ⟨.level code, k, e.address⟩ u.queue } }) []
         else takenAs s written []
       else refusedAs s .range)) ∧
  (∀ (s : State) (slot : Nat), hears s = true →
     exec (.unpin slot) s = .next (
       if h : slot < 256 then
         let k : Fin 256 := ⟨slot, h⟩
         let e := entryAt s k
         if e.state = .free ∨ e.state = .retiring then refusedAs s .state
         else takenAs s { s with roster :=
           { s.roster with
             slots := s.roster.slots.set k { e with pin := none }
             marks := s.roster.marks ||| blockBit k
             window := none } } []
       else refusedAs s .range)) ∧
  ∀ (s : State) (slot : Nat), hears s = true →
    exec (.locate slot) s = .next (
      if h : slot < 256 then
        let k : Fin 256 := ⟨slot, h⟩
        let e := entryAt s k
        if e.state ≠ .active ∨ lineUsable s e.line = false then refusedAs s .state
        else if ∃ r ∈ (s.lines.get e.line).queue, r.address = e.address then refusedAs s .busy
        else takenAs s (consider e.line
          { closeWindow s with lines := s.lines.modify e.line fun u =>
            { u with queue := u.queue ++ [⟨.ident, k, e.address⟩] } }) []
      else refusedAs s .range)

/-- What a request does to the one queued for its address: its position stays; a level replaces a level or an IDENT and gives way to a
release, a release replaces every other, and an address with none queued gains its request at the tail. -/
def Obligations.QueueReplacement : Prop :=
  ∀ (new : Request) (queue : List Request),
    ((∀ r ∈ queue, r.address ≠ new.address) → enqueue new queue = queue ++ [new]) ∧
    ((∃ r ∈ queue, r.address = new.address) →
      (enqueue new queue).map (·.address) = queue.map (·.address) ∧
      ∀ (i : Nat) (old : Request), queue[i]? = some old →
        (old.address ≠ new.address → (enqueue new queue)[i]? = some old) ∧
        (old.address = new.address →
          (∀ code, new.kind = .level code →
            (enqueue new queue)[i]? = some (match old.kind with
              | .release _ => old
              | .level _ => new
              | .ident => new)) ∧
          (∀ made, new.kind = .release made → (enqueue new queue)[i]? = some new)))

/-- OPEN_WINDOW opens a window over its slots with the cursor at the first; READ_NEXT with a READ window open returns the records from the
cursor on, at most to the last slot, and moves the cursor past them, its response carrying the cursor so moved (the model's reading,
log 22); CLEAR_MARKS clears the marks it names. Nothing else changes. -/
def Obligations.WindowReadAndMarks : Prop :=
  ∀ s : State, hears s = true →
    (∀ first last direction, exec (.openWindow first last direction) s = .next (
      if 255 < first ∨ 255 < last ∨ last < first ∨ 1 < direction then refusedAs s .range
      else takenAs s (putWindow (some ⟨first, last, if direction = 0 then .read else .write, first⟩) s) [])) ∧
    (∀ mask, exec (.clearMarks mask) s = .next (takenAs s { s with roster :=
      { s.roster with marks := s.roster.marks &&& ~~~mask, window := none } } [])) ∧
    ∀ count,
      (count < 1 ∨ 16 < count → exec (.readNext count) s = .next (refusedAs s .range)) ∧
      (1 ≤ count → count ≤ 16 → (∀ w, s.roster.window = some w → w.direction = .write) →
        exec (.readNext count) s = .next (refusedAs s .window)) ∧
      ∀ w, 1 ≤ count → count ≤ 16 → s.roster.window = some w → w.direction = .read → w.last ≤ 255 →
        ∃ records : List (Fin 256),
          records.map (·.val) = (List.range' w.cursor count).filter (· ≤ w.last) ∧
          exec (.readNext count) s = .next (takenAs s
            (putWindow (some { w with cursor := w.cursor + records.length }) s)
            (to1 records.length ++ to2 (w.cursor + records.length) ++
              (records.map fun k => entryRecordBytes k (entryAt s k)).flatten))


/-- WRITE_NEXT. One record, against the slot at the cursor: ignored past the last slot, skipped as EMPTY where its state reads FREE, stopped
by the first of ENTER's checks that fails, and otherwise entered. With a WRITE window open the records are taken in order, the window stays
open at the cursor they leave, the lines consider their next transactions, once after all the records (log 10), and the response carries the
counts, the outcome and the cursor. -/
def Obligations.WriteNextResult : Prop :=
  (∀ (r : EntryRecord) (t : Transfer),
     (t.outcome ≠ .done → transferRecord r t = t) ∧
     (t.outcome = .done → t.window.last < t.window.cursor → transferRecord r t = { t with ignored := t.ignored + 1 }) ∧
     (t.outcome = .done → t.window.cursor ≤ t.window.last → r.state = 0 →
       transferRecord r t =
         { t with window := { t.window with cursor := t.window.cursor + 1 }, skipped := t.skipped + 1 }) ∧
     ∀ k : Fin 256, t.outcome = .done → t.window.cursor ≤ t.window.last → r.state ≠ 0 → k.val = t.window.cursor →
       let refusal : Option Status :=
         if r.q < 1 ∨ 9999 < r.q then some .range
         else if (entryAt t.state k).state ≠ .free then some .state
         else if ∃ j, j ≠ k ∧ (entryAt t.state j).state ≠ .free ∧ (entryAt t.state j).line = r.line ∧
             (entryAt t.state j).address = r.address then some .conflict
         else none
       transferRecord r t = match refusal with
         | some why => { t with outcome := why }
         | none =>
             { t with
               state := { t.state with roster :=
                 { t.state.roster with
                   slots := t.state.roster.slots.set k
                     { state := .provisional, line := r.line, address := r.address, portal := r.portal, stage := r.stage,
                       cls := r.cls, q := r.q, age := r.age, sub := 0, pin := r.pin.map (·.val), health := .unknown,
                       miss := 0, unreachable := false, setLevel := (r.pin.map (·.val)).getD 0, confirmed := none }
                   marks := t.state.roster.marks ||| blockBit k } }
               window := { t.window with cursor := t.window.cursor + 1 }
               applied := t.applied + 1 }) ∧
  ∀ (s : State) (records : List EntryRecord), hears s = true →
    (records = [] ∨ 16 < records.length → exec (.writeNext records) s = .next (refusedAs s .format)) ∧
    (records ≠ [] → records.length ≤ 16 → storeWriting s = true →
      exec (.writeNext records) s = .next (refusedAs s .busy)) ∧
    (records ≠ [] → records.length ≤ 16 → storeWriting s = false → (∀ w, s.roster.window = some w → w.direction = .read) →
      exec (.writeNext records) s = .next (refusedAs s .window)) ∧
    ∀ w, records ≠ [] → records.length ≤ 16 → storeWriting s = false → s.roster.window = some w → w.direction = .write →
      let t := records.foldl (fun t r => transferRecord r t) ⟨s, w, 0, 0, 0, .done⟩
      exec (.writeNext records) s = .next (takenAs s
        (considerAll { t.state with roster := { t.state.roster with window := some t.window } })
        (to1 t.applied ++ to1 t.skipped ++ to1 t.ignored ++ [statusCode t.outcome] ++ to2 t.window.cursor))

/-- The age tick adds 1 to the sub-count of every non-FREE entry lit at its confirmed level, and a hundred ticks are one unit of age; at
65,535 the age stays and the sub-count is 0. Nothing else changes. -/
def Obligations.AgeTickResult : Prop :=
  ∀ s : State, s.powered = true → s.roster.ageTick.isRunning = true →
    ∃ slots, exec .ageTickExpiry s = .next { s with roster := { s.roster with slots := slots, ageTick := .running 360000 } } ∧
      ∀ k, let e := entryAt s k
        slots.get k =
          if e.state ≠ .free ∧ (∃ code, e.confirmed = some code ∧ 0 < code) then
            if 65535 ≤ e.age then { e with sub := 0 }
            else if 99 ≤ e.sub then { e with sub := 0, age := e.age + 1 }
            else { e with sub := e.sub + 1 }
          else e

/-! ### The photometer scanner -/

/-- The luminance and the status of a conversion: INVALID at a rail; otherwise d × gain / 256 rounded, held at 99,999 as SATURATED, and
IMPLAUSIBLE outside the limits. A portal may select a saturated reading, and selects it as 99,999. -/
def Obligations.ReadingRule : Prop :=
  (∀ (mode : Rounding) (c : Calibration) (raw : Nat),
    let formed := divRound mode ((raw - c.offset) * c.gain) 256
    let luminance := min formed 99999
    measured mode c raw =
      if raw ≤ 15 ∨ 4080 ≤ raw then (none, .invalid)
      else if luminance < c.lowLimit ∨ c.highLimit < luminance then (some luminance, .implausible)
      else if 99999 < formed then (some luminance, .saturated)
      else (some luminance, .valid)) ∧
  ∀ (mode : Rounding) (c : Calibration) (raw staleLimit : Nat) (number : BitVec 8) (sight : Sight),
    (measured mode c raw).2 = .saturated → sight.staleness < staleLimit →
      usable staleLimit ⟨(measured mode c raw).1, .saturated, number⟩ sight = some 99999

/-- The scan timer's expiry begins a scan of a copy of the scan list where the scanner is idle and position 0 holds a channel, reports
SCAN_SKIP where a scan is in progress, and runs on with the scan interval. A completed conversion replaces its channel's reading whole
with the reading number advanced, reports the first INVALID or IMPLAUSIBLE reading of a run, and begins the next position's conversion
or ends the scan; no other channel and nothing else changes. -/
def Obligations.ScanResult : Prop :=
  (∀ s : State, s.powered = true → s.scanner.timer.isRunning = true →
     let scanner : Scanner := { s.scanner with timer := .running s.settings.scanInterval }
     (∀ scan, s.scanner.scan = some scan →
       exec .scanTimerExpiry s = .next (report .scanSkip { s with scanner := scanner })) ∧
     (s.scanner.scan = none →
       let begun : Option Scan := (s.settings.scanList.get 0).map fun ch => ⟨s.settings.scanList, 0, ch⟩
       exec .scanTimerExpiry s = .next { s with scanner := { scanner with scan := begun } })) ∧
  ∀ (s : State) (scan : Scan) (raw : Nat), s.powered = true → s.scanner.scan = some scan →
    ∃ t, exec (.conversionComplete raw) s = .next t ∧
      let old := s.scanner.readings.get scan.channel
      let found := measured s.settings.compute.mode (s.settings.channels.get scan.channel) raw
      t.scanner.readings = s.scanner.readings.set scan.channel ⟨found.1, found.2, old.number + 1⟩ ∧
      (∀ next : Fin 8, next.val = scan.position.val + 1 →
        t.scanner.scan = (scan.list.get next).map fun ch => ⟨scan.list, next, ch⟩) ∧
      (scan.position = 7 → t.scanner.scan = none) ∧ t.scanner.timer = s.scanner.timer ∧
      t.events.flags = s.events.flags |||
        (if found.2 = .invalid ∧ old.status ≠ .invalid then flagBit (.chInvalid scan.channel) else 0#48) |||
        (if found.2 = .implausible ∧ old.status ≠ .implausible then flagBit (.chLimit scan.channel) else 0#48) ∧
      { t with scanner := s.scanner, events := s.events } = s

/-- SET_CHANNEL writes a channel's whole calibration and SET_SCAN the list and the interval, rounded down to a multiple of 50, and restarts
the timer; the readings and a scan in progress go on. Outside their ranges, and while the store is WRITING, they change nothing. -/
def Obligations.ScannerSettings : Prop :=
  ∀ s : State, hears s = true →
    (∀ channel offset gain low high, exec (.setChannel channel offset gain low high) s = .next (
      if h : channel < 8 ∧ offset ≤ 1023 ∧ 1 ≤ gain ∧ gain ≤ 65535 ∧ low ≤ high ∧ high ≤ 99999 then
        if storeWriting s then refusedAs s .busy
        else takenAs s { closeWindow s with settings :=
          { s.settings with channels := s.settings.channels.set ⟨channel, h.1⟩ ⟨offset, gain, low, high⟩ } } []
      else refusedAs s .range)) ∧
    (∀ (list : ScanList) interval,
      exec (.setScan (list.cells.map fun p => (p.map (·.val)).getD 0xFF) interval) s = .next (
        if interval < 100 ∨ 5000 < interval then refusedAs s .range
        else if storeWriting s then refusedAs s .busy
        else takenAs s
          { closeWindow s with
            settings := { s.settings with scanList := list, scanInterval := interval / 50 * 50 }
            scanner := { s.scanner with timer := .running (interval / 50 * 50) } } [])) ∧
    ∀ positions interval, positions.length = 8 → (∃ p ∈ positions, 8 ≤ p ∧ p ≠ 0xFF) →
      exec (.setScan positions interval) s = .next (refusedAs s .range)

/-! ### The portal controllers -/

/-- Selection. At each assigned channel a reading number that differs from the last seen, or none seen, is new and its staleness 0; an equal
one raises the staleness, to 15 at most. A channel is usable while its reading is VALID or SATURATED and its staleness below the stale
limit. The approach luminance is the brighter of two usable ones, the one of one, and none of none; two that lie too far apart disagree.
Without one, the cause is the failure of the primary, or of the secondary where no primary is assigned, or NO_CHANNEL. -/
def Obligations.SelectionRule : Prop :=
  ∀ (s : State) (c : PortalConfig) (live : PortalLive),
    let reading (ch : Fin 8) : Reading := s.scanner.readings.get ch
    let stale (assigned : Option (Fin 8)) (before after : Sight) : Prop :=
      (assigned = none → after = before) ∧
      ∀ ch, assigned = some ch →
        (before.lastSeen ≠ some (reading ch).number → after = ⟨some (reading ch).number, 0⟩) ∧
        (before.lastSeen = some (reading ch).number → after.lastSeen = before.lastSeen ∧
          after.staleness = if before.staleness < 15 then before.staleness + 1 else 15)
    let usableAt (assigned : Option (Fin 8)) (sight : Sight) (luminance : Nat) : Prop :=
      ∃ ch, assigned = some ch ∧ ((reading ch).status = .valid ∨ (reading ch).status = .saturated) ∧
        sight.staleness < c.staleLimit ∧ (reading ch).luminance = some luminance
    let failure (ch : Fin 8) : Cause :=
      match (reading ch).status with
      | .invalid => .invalid ch
      | .implausible => .implausible ch
      | .none => .stale ch
      | .valid => .stale ch
      | .saturated => .stale ch
    let after := (selectionPass s c live).1
    let luminance := (selectionPass s c live).2
    let a := usableAt c.primary after.primarySight
    let b := usableAt c.secondary after.secondarySight
    { after with
      primarySight := live.primarySight, secondarySight := live.secondarySight, disagreeing := live.disagreeing } = live ∧
    stale c.primary live.primarySight after.primarySight ∧ stale c.secondary live.secondarySight after.secondarySight ∧
    (∀ x y, a x → b y → luminance = some (max x y)) ∧ (∀ x, a x → (∀ y, ¬b y) → luminance = some x) ∧
    (∀ y, b y → (∀ x, ¬a x) → luminance = some y) ∧ ((∀ x, ¬a x) → (∀ y, ¬b y) → luminance = none) ∧
    (after.disagreeing = true ↔
      ∃ x y, a x ∧ b y ∧ c.disagreement * max x y < (max x y - min x y) * 1000) ∧
    (∀ ch, c.primary = some ch → causeFormed s c = failure ch) ∧
    (∀ ch, c.primary = none → c.secondary = some ch → causeFormed s c = failure ch) ∧
    (c.primary = none → c.secondary = none → causeFormed s c = .noChannel)

/-- An update runs its stages in their order. Selection, filter and control state; then the control Lth (F × k / 1,000 clamped in AUTO and
HOLD where seeded, Lth_fallback in START, in FALLBACK and where not seeded, the manual Lth in MANUAL) and the applied Lth by the role; then
each stage's requirement and slew with the inward clamp, after which the fall hold count is lowered in AUTO and the rise jump is spent; then
the reports, capacity, output fraction, and set levels and requests. Its timer runs on, and the quiet lines consider their next
transactions. -/
def Obligations.UpdateResult : Prop :=
  ∀ (s : State) (p : Fin 4), s.powered = true → (s.portals.get p).timer.isRunning = true →
    let c := s.settings.portals.get p
    let mode := s.settings.compute.mode
    let before := s.portals.get p
    let luminance := (selectionPass s c before).2
    let live := controlPass c luminance (causeFormed s c) (filterPass mode c luminance (selectionPass s c before).1)
    let fromFilter :=
      if live.seeded then min c.lthCap (max c.lthMin (divRound mode (live.filtered * c.k) 1000)) else c.lthFallback
    let control :=
      match live.control with
      | .start => c.lthFallback
      | .auto => fromFilter
      | .hold => fromFilter
      | .fallback => c.lthFallback
      | .manual => live.manualLth
    let applied := if c.role = .entrance then control else 0
    let required := requirements mode c applied
    let slewed := clampInward
      (List.zipWith (slew mode c live.riseJump live.fallHold) required (live.stages.cells.map (·.q)))
    ∃ stages : Tbl Stage 8,
      (∀ j : Fin 8, stages.get j =
        if j.val < c.stageCount then
          { live.stages.get j with requirement := required.getD j.val 0, q := slewed.getD j.val 0 }
        else live.stages.get j) ∧
      let after : PortalLive :=
        { live with
          controlLth := control
          appliedLth := applied
          stages := stages
          fallHold := if live.control = .auto then live.fallHold - 1 else live.fallHold
          riseJump := false
          updated := true
          timer := .running c.updateInterval }
      let reported := reportIf (decide (before.control ≠ .fallback ∧ after.control = .fallback)) (.pFallback p)
        (reportIf (decide (before.control = .auto ∧ after.control = .hold)) (.pHold p)
          (reportIf (decide (before.disagreeing = false ∧ after.disagreeing = true)) (.pDisagree p) (putPortal p after s)))
      exec (.updateTimerExpiry p) s = .next (considerAll (levelPass p (outputPass p (capacityPass p reported))))

/-- The approach filter. With an S outside FALLBACK, F becomes S where it was not seeded, and otherwise F + (S − F) × w / 256 rounded;
without an S, and in FALLBACK, it is held. For w up to 256, F never passes S. -/
def Obligations.FilterRule : Prop :=
  ∀ (mode : Rounding) (c : PortalConfig) (live : PortalLive),
    filterPass mode c none live = live ∧
    ∀ luminance : Nat,
      let after := filterPass mode c (some luminance) live
      (live.control = .fallback → after = live) ∧
      (live.control ≠ .fallback → live.seeded = false → after = { live with filtered := luminance, seeded := true }) ∧
      (live.control ≠ .fallback → live.seeded = true → c.w ≤ 256 →
        (after.filtered : Int) =
          live.filtered + divRoundInt mode (((luminance : Int) - live.filtered) * c.w) 256 ∧
        after.seeded = true ∧
        min live.filtered luminance ≤ after.filtered ∧ after.filtered ≤ max live.filtered luminance ∧
        (c.w = 256 → after.filtered = luminance) ∧
        (live.filtered ≤ 99999 → luminance ≤ 99999 → after.filtered ≤ 99999) ∧
        after.trend = (if live.filtered < after.filtered then .rising
          else if after.filtered < live.filtered then .falling else live.trend) ∧
        after.fallHold =
          (if live.trend = .rising ∧ after.filtered < live.filtered then c.fallHoldLength else live.fallHold))

/-- What the control state's part of an update leaves, from the record before it, whether it found an S, and the cause formed without one:
the control state, the hold and good counts, cause and prior cause (left as it stands at a return from START or HOLD, log 20), F and seeded
at a recovery, seeded and the rise jump at the entry to FALLBACK; every other field stays. -/
def Obligations.ControlStateRule : Prop :=
  ∀ (c : PortalConfig) (sel : Option Nat) (formed : Cause) (live : PortalLive),
    let after := controlPass c sel formed live
    let waiting := live.control = .start ∨ live.control = .hold
    let returns := sel ≠ none ∧ waiting
    let enters := sel = none ∧ waiting ∧ c.holdLimit ≤ live.holdCount + 1
    let recovers := sel ≠ none ∧ live.control = .fallback ∧ c.recoverCount ≤ live.goodCount + 1
    after.control =
      (match live.control, sel with
      | .start, some _ => .auto
      | .start, none => if c.holdLimit ≤ live.holdCount + 1 then .fallback else .start
      | .auto, some _ => .auto
      | .auto, none => .hold
      | .hold, some _ => .auto
      | .hold, none => if c.holdLimit ≤ live.holdCount + 1 then .fallback else .hold
      | .fallback, some _ => if c.recoverCount ≤ live.goodCount + 1 then .auto else .fallback
      | .fallback, none => .fallback
      | .manual, _ => .manual) ∧
    after.holdCount =
      (if returns ∨ enters then 0
      else if sel = none ∧ waiting then live.holdCount + 1
      else if sel = none ∧ live.control = .auto then 1
      else live.holdCount) ∧
    after.goodCount =
      (if enters ∨ recovers ∨ sel = none ∧ live.control = .fallback then 0
      else if live.control = .fallback then live.goodCount + 1
      else live.goodCount) ∧
    after.cause =
      (if returns ∨ recovers then .none
      else if sel = none ∧ (live.control = .start ∨ live.control = .auto ∨ live.control = .fallback ∨ enters) then formed
      else live.cause) ∧
    after.priorCause =
      (if enters then (if live.control = .start then .none else live.cause) else if recovers then .none else live.priorCause) ∧
    (recovers → sel = some after.filtered) ∧ (¬recovers → after.filtered = live.filtered) ∧
    (after.seeded = true ↔ recovers ∨ ¬enters ∧ live.seeded = true) ∧
    (after.riseJump = true ↔ enters ∨ live.riseJump = true) ∧
    { after with
      control := live.control, holdCount := live.holdCount, goodCount := live.goodCount, cause := live.cause,
      priorCause := live.priorCause, filtered := live.filtered, seeded := live.seeded, riseJump := live.riseJump } = live

/-- A stage's requirement, its slew, and the inward clamp. The requirement is the larger of the stage's share of the applied Lth and its
floor, clamped inward, and 0 in a CLOSED portal. A rise jumps where the rise jump is set; otherwise a rise and a fall within the dead band
change nothing, a fall waits for the fall hold, each steps by at least 1 and neither passes the requirement. After the clamp every value is
the least of those from the outermost up to it. -/
def Obligations.SlewAndClamp : Prop :=
  (∀ (mode : Rounding) (c : PortalConfig) (applied : Nat),
     let used := c.stages.cells.take c.stageCount
     (c.role = .closed → requirements mode c applied = List.replicate used.length 0) ∧
     (c.role ≠ .closed → requirements mode c applied =
       clampInward (used.map fun st => max (divRound mode (applied * st.f) 1000) st.floor))) ∧
  (∀ (mode : Rounding) (c : PortalConfig) (jump : Bool) (hold r q : Nat),
    let within := (max r q - min r q) * 1000 ≤ c.deadBand * q
    let after := slew mode c jump hold r q
    after = (if q < r then
        if jump = true then r else if within then q else min r (q + max 1 (divRound mode (q * c.up) 1000))
      else if r < q then
        if within then q else if 0 < hold then q else max r (q - max 1 (divRound mode (q * c.dn) 1000))
      else q) ∧
    (q ≤ r → q ≤ after ∧ after ≤ r) ∧ (r ≤ q → r ≤ after ∧ after ≤ q)) ∧
  ∀ values : List Nat, (clampInward values).length = values.length ∧
    ∀ (i : Nat) (v : Nat), (clampInward values)[i]? = some v → (values.take (i + 1)).min? = some v

/-- SET_MANUAL and SET_AUTO: the control state, its counts and causes change at the command, and nothing else does; both are taken while the
store is WRITING. SET_ROLE: the role held changes nothing; to CLOSED the applied Lth, every Q and every shortfall become 0 and the output is
recomputed; to ENTRANCE, and from CLOSED to EXIT, the rise jump becomes yes; from ENTRANCE to EXIT only the role changes. -/
def Obligations.ManualAutoAndRole : Prop :=
  (∀ s : State, hears s = true →
     (∀ portal luminance, exec (.setManual portal luminance) s = .next (
       if h : portal < 4 ∧ luminance ≤ 99999 then
         let p : Fin 4 := ⟨portal, h.1⟩
         takenAs s (putPortal p
           { s.portals.get p with
             control := .manual
             manualLth := min luminance (s.settings.portals.get p).lthCap
             holdCount := 0
             goodCount := 0 } (closeWindow s)) []
       else refusedAs s .range)) ∧
     ∀ portal, exec (.setAuto portal) s = .next (
       if h : portal < 4 then
         let p : Fin 4 := ⟨portal, h⟩
         if (s.portals.get p).control = .manual then
           takenAs s (putPortal p
             { s.portals.get p with
               control := .auto
               holdCount := 0
               goodCount := 0
               cause := .none
               priorCause := .none } (closeWindow s)) []
         else refusedAs s .state
       else refusedAs s .range)) ∧
  ∀ s : State, hears s = true →
    (∀ portal role, 4 ≤ portal ∨ 3 ≤ role → exec (.setRole portal role) s = .next (refusedAs s .range)) ∧
    (∀ (p : Fin 4) (role : Nat), role < 3 → storeWriting s = true →
      exec (.setRole p.val role) s = .next (refusedAs s .busy)) ∧
    ∀ (p : Fin 4) (role : Role), storeWriting s = false →
      let config := s.settings.portals.get p
      let written : State := { closeWindow s with settings :=
        { s.settings with portals := s.settings.portals.set p { config with role := role } } }
      let withLive (live : PortalLive) : State := { written with portals := s.portals.set p live }
      let live := s.portals.get p
      exec (.setRole p.val (match role with | .entrance => 0 | .exit => 1 | .closed => 2)) s = .next (takenAs s (
        if role = config.role then closeWindow s
        else if role = .closed then
          considerAll (recompute p (withLive
            { live with
              appliedLth := 0
              stages := live.stages.map fun st => { st with q := 0, shortfall := 0 } }))
        else if role = .entrance ∨ config.role = .closed then withLive { live with riseJump := true }
        else written) [])

/-- SET_STAGES: n and the pairs replace the stages; positions in use before and after keep their live fields, all others take zeros, and a
raised n sets the rise jump. -/
def Obligations.SetStagesResult : Prop :=
  ∀ (s : State) (portal count : Nat) (pairs : List (Nat × Nat)), hears s = true →
    (pairs.length ≠ count → exec (.setStages portal count pairs) s = .next (refusedAs s .format)) ∧
    (pairs.length = count →
      4 ≤ portal ∨ count < 1 ∨ 8 < count ∨ (∃ x ∈ pairs, 1000 < x.1 ∨ 99999 < x.2) →
        exec (.setStages portal count pairs) s = .next (refusedAs s .range)) ∧
    ∀ p : Fin 4, p.val = portal → pairs.length = count → 1 ≤ count → count ≤ 8 →
      (∀ x ∈ pairs, x.1 ≤ 1000 ∧ x.2 ≤ 99999) →
      let config := s.settings.portals.get p
      let live := s.portals.get p
      (storeWriting s = true → exec (.setStages portal count pairs) s = .next (refusedAs s .busy)) ∧
      (storeWriting s = false → ∃ configs stages,
        exec (.setStages portal count pairs) s = .next (takenAs s
          (putPortal p { live with stages := stages, riseJump := live.riseJump || decide (config.stageCount < count) }
            (modifyPortalConfig p (fun c => { c with stageCount := count, stages := configs }) (closeWindow s))) []) ∧
        (∀ j : Fin 8, configs.get j = ⟨(pairs[j.val]?.getD (0, 0)).1, (pairs[j.val]?.getD (0, 0)).2⟩) ∧
        ∀ j : Fin 8, stages.get j =
          if j.val < config.stageCount ∧ j.val < count then live.stages.get j else Stage.unused)

/-- SET_PORTAL. In range and with the store not WRITING, every configuration field but role and stages is written, the interval rounded down
to a multiple of 250; channels assigned before keep what was seen of them, the fall hold count and the manual Lth are lowered to their new
limits, the update timer restarts, and the output is recomputed where u_min changed. Out of range in any field, or with one channel in
both positions, it is refused with RANGE and writes nothing; in range it is refused with BUSY while the store is WRITING. -/
def Obligations.SetPortalResult : Prop :=
  (∀ (s : State) (p : Fin 4) (c : PortalFields) (primary secondary : Option (Fin 8)), hears s = true →
     storeWriting s = false → c.primary = (primary.map (·.val)).getD 0xFF → c.secondary = (secondary.map (·.val)).getD 0xFF →
     (primary = secondary → primary = none) →
     1 ≤ c.k ∧ c.k ≤ 200 → c.lthMin ≤ c.lthCap ∧ c.lthFallback ≤ c.lthCap ∧ c.lthCap ≤ 99999 → 1 ≤ c.w ∧ c.w ≤ 256 →
     1 ≤ c.up ∧ c.up ≤ 1000 → 1 ≤ c.dn ∧ c.dn ≤ 1000 → c.deadBand ≤ 100 → c.fallHoldLength ≤ 255 →
     1 ≤ c.staleLimit ∧ c.staleLimit ≤ 15 → 1 ≤ c.holdLimit ∧ c.holdLimit ≤ 255 → 1 ≤ c.recoverCount ∧ c.recoverCount ≤ 15 →
     1 ≤ c.disagreement ∧ c.disagreement ≤ 1000 → c.uMin ≤ 2000 → 250 ≤ c.updateInterval ∧ c.updateInterval ≤ 10000 →
       let old := s.settings.portals.get p
       let live := s.portals.get p
       let interval := c.updateInterval / 250 * 250
       let sight (assigned : Option (Fin 8)) : Sight :=
         match assigned with
         | none => ⟨none, 0⟩
         | some ch =>
             if old.primary = some ch then live.primarySight
             else if old.secondary = some ch then live.secondarySight
             else ⟨some (s.scanner.readings.get ch).number, 15⟩
       let new : PortalConfig :=
         { role := old.role, primary := primary, secondary := secondary, k := c.k, lthMin := c.lthMin, lthCap := c.lthCap,
           lthFallback := c.lthFallback, w := c.w, up := c.up, dn := c.dn, deadBand := c.deadBand,
           fallHoldLength := c.fallHoldLength, staleLimit := c.staleLimit, holdLimit := c.holdLimit,
           recoverCount := c.recoverCount, disagreement := c.disagreement, uMin := c.uMin, updateInterval := interval,
           stageCount := old.stageCount, stages := old.stages }
       let written : State :=
         { closeWindow s with
           settings := { s.settings with portals := s.settings.portals.set p new }
           portals := s.portals.set p
             { live with
               primarySight := sight primary
               secondarySight := sight secondary
               fallHold := min live.fallHold c.fallHoldLength
               manualLth := min live.manualLth c.lthCap
               timer := .running interval } }
       exec (.setPortal p.val c) s = .next (takenAs s
         (if c.uMin = old.uMin then written else considerAll (recompute p written)) [])) ∧
  ∀ (s : State) (portal : Nat) (c : PortalFields), hears s = true →
    let outOfRange := 4 ≤ portal ∨ 8 ≤ c.primary ∧ c.primary ≠ 0xFF ∨ 8 ≤ c.secondary ∧ c.secondary ≠ 0xFF ∨
      c.primary = c.secondary ∧ c.primary ≠ 0xFF ∨ c.k < 1 ∨ 200 < c.k ∨ 99999 < c.lthMin ∨ c.lthCap < c.lthMin ∨
      99999 < c.lthCap ∨ c.lthCap < c.lthFallback ∨ c.w < 1 ∨ 256 < c.w ∨ c.up < 1 ∨ 1000 < c.up ∨ c.dn < 1 ∨
      1000 < c.dn ∨ 100 < c.deadBand ∨ 255 < c.fallHoldLength ∨ c.staleLimit < 1 ∨ 15 < c.staleLimit ∨ c.holdLimit < 1 ∨
      255 < c.holdLimit ∨ c.recoverCount < 1 ∨ 15 < c.recoverCount ∨ c.disagreement < 1 ∨ 1000 < c.disagreement ∨
      2000 < c.uMin ∨ c.updateInterval < 250 ∨ 10000 < c.updateInterval
    (outOfRange → exec (.setPortal portal c) s = .next (refusedAs s .range)) ∧
    (¬outOfRange → storeWriting s = true → exec (.setPortal portal c) s = .next (refusedAs s .busy))

/-! ### The output tables -/

/-- SET_COMPUTE, SET_MAINTENANCE and SET_CURVE: each writes its settings whole, or is refused and leaves them whole; SET_COMPUTE makes every
portal that the power limit is active for recompute its output, P0 first (the order is the model's choice, log 9). -/
def Obligations.OutputTableCommands : Prop :=
  ∀ s : State, hears s = true →
    (∀ (mode : Nat) (thermal ceiling : Nat),
      3 ≤ mode ∨ thermal < 300 ∨ 1000 < thermal ∨ ceiling < 2000 ∨ 10000 < ceiling →
        exec (.setCompute mode thermal ceiling) s = .next (refusedAs s .range)) ∧
    (∀ (mode : Rounding) (thermal ceiling : Nat), 300 ≤ thermal → thermal ≤ 1000 → 2000 ≤ ceiling → ceiling ≤ 10000 →
      exec (.setCompute (roundingCode mode) thermal ceiling) s = .next (
        if storeWriting s then refusedAs s .busy
        else takenAs s (considerAll ((List.finRange 4).foldl
          (fun t p => if limitActive s p then recompute p t else t)
          { closeWindow s with settings := { s.settings with compute := ⟨mode, thermal, ceiling⟩ } })) [])) ∧
    (∀ (count : Nat) (rows : List MaintenanceRow),
      let carried := rows.map fun r => (r.threshold, r.factor)
      (rows.length ≠ count → exec (.setMaintenance count carried) s = .next (refusedAs s .format)) ∧
      (rows.length = count → ¬maintenanceInRange rows →
        exec (.setMaintenance count carried) s = .next (refusedAs s .range)) ∧
      (rows.length = count → maintenanceInRange rows →
        exec (.setMaintenance count carried) s = .next (
          if storeWriting s then refusedAs s .busy
          else takenAs s { closeWindow s with settings := { s.settings with maintenance := rows } } []))) ∧
    ∀ (cls : Nat) (points : List Nat),
      (points.length ≠ 17 → exec (.setCurve cls points) s = .next (refusedAs s .format)) ∧
      ∀ curve : Curve, curve.cells = points →
        (4 ≤ cls ∨ ¬Curve.InRange curve → exec (.setCurve cls points) s = .next (refusedAs s .range)) ∧
        ∀ c : Fin 4, c.val = cls → Curve.InRange curve →
          exec (.setCurve cls points) s = .next (
            if storeWriting s then refusedAs s .busy
            else takenAs s { closeWindow s with settings :=
              { s.settings with curves := s.settings.curves.set c curve } } [])

/-- What counts toward capacity, an entry's effective contribution, a stage's capacity as the sum over the entries counted for it, and the
capacities an update writes: those of the stages in use, and nothing else. -/
def Obligations.CapacityRule : Prop :=
  (∀ (s : State) (e : Entry), counted s e = true ↔
    e.state = .active ∧ e.pin = none ∧ (e.health = .ok ∨ e.health = .derated ∨ e.health = .unknown) ∧
      e.stage.val < (s.settings.portals.get e.portal).stageCount ∧ s.settings.enables.get e.line = true ∧
      (s.lines.get e.line).faulted = false) ∧
  (∀ (rows : List MaintenanceRow) (age i : Nat) (r : MaintenanceRow), rows.Pairwise (fun a b => a.threshold < b.threshold) →
    rows[i]? = some r → r.threshold ≤ age → (∀ later, rows[i + 1]? = some later → age < later.threshold) →
      maintenanceFactor rows age = r.factor) ∧
  (∀ (c : Compute) (rows : List MaintenanceRow) (e : Entry),
    let mf := maintenanceFactor rows e.age
    effective c rows e =
      (if e.health = .derated then divRound c.mode (e.q * mf * c.thermal) 1000000 else divRound c.mode (e.q * mf) 1000) ∧
    (maintenanceInRange rows → c.thermal ≤ 1000 → effective c rows e ≤ e.q)) ∧
  (∀ (s : State) (p : Fin 4) (j : Fin 8),
     stageCapacity s p j = ∑ k : Fin 256,
       if (entryAt s k).portal = p ∧ (entryAt s k).stage = j ∧ counted s (entryAt s k) = true then
         effective s.settings.compute s.settings.maintenance (entryAt s k) else 0) ∧
  ∀ (s : State) (p : Fin 4), let live := s.portals.get p
    ∃ stages : Tbl Stage 8, capacityPass p s = putPortal p { live with stages := stages } s ∧
      ∀ j : Fin 8, stages.get j =
        if j.val < (s.settings.portals.get p).stageCount then { live.stages.get j with capacity := stageCapacity s p j }
        else live.stages.get j

/-- A stage's output computation: u, the shortfall and the flags from Q and C, u_min, force, the power limit and its ceiling; u stays within
10,000, at or above u_min when above 0, and at or below the ceiling under the limit. A portal's computes each stage in use, leaves the unused
positions alone, and reports P_DARK and P_SHORT where a stage gains DARK or SHORT. An output recomputation computes capacity first only where
no update has run since the last reset, and then output fractions, set levels and requests. -/
def Obligations.OutputFractionRule : Prop :=
  (∀ (mode : Rounding) (uMin ceiling : Nat) (force limit : Bool) (st : Stage),
     uMin ≤ 2000 → 2000 ≤ ceiling → ceiling ≤ 10000 →
       let raw := divRound mode (st.q * 10000) st.capacity
       let dark := st.q ≠ 0 ∧ st.capacity = 0
       let short := st.q ≠ 0 ∧ st.capacity ≠ 0 ∧ 10000 < raw
       let demanded := if st.q = 0 then 0 else if dark ∨ short then 10000 else raw
       let held := 0 < demanded ∧ demanded < uMin
       let driven := if force = true then 10000 else if held then uMin else demanded
       let cut := limit = true ∧ ceiling < driven
       let after := stageOutput mode uMin ceiling force limit st
       after = { st with
         u := if cut then ceiling else driven
         shortfall := if dark ∨ short then st.q - st.capacity else 0
         flags := ⟨decide short, decide dark, decide cut, decide (held ∧ force = false), force⟩ } ∧
       after.u ≤ 10000 ∧ (0 < after.u → uMin ≤ after.u) ∧ (limit = true → after.u ≤ ceiling) ∧
       (0 < after.shortfall ↔ dark ∨ short)) ∧
  ∀ (s : State) (p : Fin 4),
    let live := s.portals.get p
    let c := s.settings.portals.get p
    let gains (after : Tbl Stage 8) (flag : StageFlags → Bool) : Bool :=
      decide (∃ j : Fin 8, j.val < c.stageCount ∧ flag (after.get j).flags = true ∧ flag (live.stages.get j).flags = false)
    (∃ stages : Tbl Stage 8,
      (∀ j : Fin 8, stages.get j =
        if j.val < c.stageCount then
          stageOutput s.settings.compute.mode c.uMin s.settings.compute.ceiling (forceActive s p) (limitActive s p)
            (live.stages.get j)
        else live.stages.get j) ∧
      outputPass p s = reportIf (gains stages (·.short)) (.pShort p)
        (reportIf (gains stages (·.dark)) (.pDark p) (putPortal p { live with stages := stages } s))) ∧
    (live.updated = true → recompute p s = levelPass p (outputPass p s)) ∧
    (live.updated = false → recompute p s = levelPass p (outputPass p (capacityPass p s)))

/-- The code of an output fraction on a curve as the part holds curves: linear between two points, never 0 for a fraction above 0. -/
def Obligations.LevelCodeRule : Prop :=
  ∀ (mode : Rounding) (curve : Curve) (u : Nat), Curve.InRange curve → u ≤ 10000 →
    (u = 10000 → codeOf mode curve u = curve.get 16) ∧ codeOf mode curve 0 = 0 ∧
    ∀ i j : Fin 17, i.val = u / 625 → j.val = i.val + 1 →
      let code := curve.get i + divRound mode ((curve.get j - curve.get i) * (u - 625 * i.val)) 625
      codeOf mode curve u = (if 0 < u ∧ code = 0 then 1 else code) ∧ curve.get i ≤ code ∧ code ≤ curve.get j

/-- Set levels and requests at an update or an output recomputation: each ACTIVE entry of the portal takes its level by its health, pin and
stage, and those whose confirmed level differs are handed their level in slot order, where the health, the line, the freeze and force
allow. Nothing but the roster's set levels and the lines changes. That a LOST entry keeps its set level on a stage not in use too is the
model's reading (log 26). -/
def Obligations.SetLevelRule : Prop :=
  ∀ (s : State) (p : Fin 4),
    let leveled (e : Entry) : Entry :=
      if e.portal = p ∧ e.state = .active then
        { e with setLevel :=
            if e.health = .lampFail ∨ e.health = .gearFail then 0
            else if e.health = .lost then e.setLevel
            else match e.pin with
              | some code => code
              | none =>
                  if e.stage.val < (s.settings.portals.get p).stageCount then
                    codeOf s.settings.compute.mode (s.settings.curves.get e.cls) ((s.portals.get p).stages.get e.stage).u
                  else 0 }
      else e
    let written : State := { s with roster := { s.roster with slots := s.roster.slots.map leveled } }
    levelPass p s = (List.finRange 256).foldl (fun t k =>
      let e := leveled (entryAt s k)
      if e.portal = p ∧ e.state = .active ∧ e.health ≠ .lost ∧ e.confirmed ≠ some e.setLevel ∧
          lineUsable s e.line = true ∧ (frozen s p = false ∨ forceActive s p = true ∨ e.pin ≠ none) then
        { t with lines := t.lines.modify e.line fun u =>
          { u with queue := enqueue ⟨.level e.setLevel, k, e.address⟩ u.queue } }
      else t) written

/-! ### The override unit -/

/-- The six mask commands, to the station or broadcast: FORMAT where a must-be-zero position is set; otherwise their latches or flags, for
the portals of the mask. A change of latch forms force and limit afresh; freezing and unfreezing recompute nothing. They are taken while the
store is WRITING. SET_INPUT replaces a record whole and forms force and limit afresh under it; no latch changes. -/
def Obligations.OverrideCommands : Prop :=
  ∀ s : State, hears s = true →
    let answer (dest : Dest) (status : Status) (after : State) : Host.Outcome State Fault Refusal :=
      .next { after with link := linkAfter dest s status [] .nothing }
    let with_ (o : Overrides) : State := settleConditions (closeWindow s) { closeWindow s with overrides := o }
    let o := s.overrides
    (∀ dest (mask : BitVec 8), mask.extractLsb' 4 4 ≠ 0#4 →
      exec (.force dest mask) s = answer dest .format s ∧ exec (.unforce dest mask) s = answer dest .format s ∧
      exec (.limit dest mask) s = answer dest .format s ∧ exec (.unlimit dest mask) s = answer dest .format s ∧
      exec (.freeze dest mask) s = answer dest .format s ∧ exec (.unfreeze dest mask) s = answer dest .format s) ∧
    (∀ dest (m : BitVec 4), let mask : BitVec 8 := 0#4 ++ m
      exec (.force dest mask) s = answer dest .done (with_ { o with forceLatch := o.forceLatch ||| m }) ∧
      exec (.unforce dest mask) s = answer dest .done (with_ { o with forceLatch := o.forceLatch &&& ~~~m }) ∧
      exec (.limit dest mask) s = answer dest .done (with_ { o with limitLatch := o.limitLatch ||| m }) ∧
      exec (.unlimit dest mask) s = answer dest .done (with_ { o with limitLatch := o.limitLatch &&& ~~~m }) ∧
      exec (.freeze dest mask) s =
        answer dest .done { closeWindow s with overrides := { o with freeze := o.freeze ||| m } } ∧
      exec (.unfreeze dest mask) s =
        answer dest .done { closeWindow s with overrides := { o with freeze := o.freeze &&& ~~~m } }) ∧
    ∀ input function (mask : BitVec 8) sense polarity,
      (mask.extractLsb' 4 4 ≠ 0#4 → exec (.setInput input function mask sense polarity) s = .next (refusedAs s .format)) ∧
      (mask.extractLsb' 4 4 = 0#4 → input < 1 ∨ 6 < input ∨ 3 ≤ function ∨ 2 ≤ sense ∨ 2 ≤ polarity →
        exec (.setInput input function mask sense polarity) s = .next (refusedAs s .range)) ∧
      ∀ (i : Fin 6) (r : InputRecord), mask = 0#4 ++ r.mask → input = i.val + 1 → function = functionCode r.function →
        sense = senseCode r.sense → polarity = polarityCode r.polarity →
          exec (.setInput input function mask sense polarity) s = .next (
            if storeWriting s then refusedAs s .busy
            else takenAs s (settleConditions (closeWindow s) { closeWindow s with settings :=
              { s.settings with inputs := s.settings.inputs.set i r } }) [])

/-- When force and limit are active, and what an event that changes them does: for P0 to P3 in turn (the model's order, log 9), FORCE_ON is
reported where force became active, and the output is recomputed where either changed. A physical level that moves begins, cancels or
restarts its input's debounce, and a level event without a change does nothing (log 2); at the debounce's expiry the accepted level becomes
the candidate, an asserting change of an EDGE input sets its latches, and force and limit are formed afresh. -/
def Obligations.ConditionsAndInputs : Prop :=
  ((∀ (s : State) (p : Fin 4),
     let acting (function : InputFunction) : Prop := ∃ i : Fin 6,
       let r := s.settings.inputs.get i
       r.function = function ∧ r.sense = .level ∧ r.mask.getLsbD p.val = true ∧
         (s.overrides.inputs.get i).accepted =
           some (match r.polarity with | .activeEnergised => .energised | .activeDeenergised => .deenergised)
     (forceActive s p = true ↔ s.overrides.forceLatch.getLsbD p.val = true ∨ acting .force) ∧
     (limitActive s p = true ↔ s.overrides.limitLatch.getLsbD p.val = true ∨ acting .limit)) ∧
   ∀ before after : State,
     settleConditions before after = considerAll ((List.finRange 4).foldl (fun t p =>
       let reported := if forceActive before p = false ∧ forceActive after p = true then report .forceOn t else t
       if forceActive before p ≠ forceActive after p ∨ limitActive before p ≠ limitActive after p then recompute p reported
       else reported) after)) ∧
  ∀ (s : State) (i : Fin 6), s.powered = true →
    let live := s.overrides.inputs.get i
    let record := s.settings.inputs.get i
    (∀ level, exec (.inputLevelChange i level) s = .next (
      if live.physical = level then s
      else putInput i
        { live with
          physical := level
          debounce :=
            if live.accepted = some level then none
            else match live.debounce with
              | some d => if d.candidate = level then some d else some ⟨level, .running 40⟩
              | none => some ⟨level, .running 40⟩ } s)) ∧
    ∀ candidate length, live.debounce = some ⟨candidate, .running length⟩ →
      let active : InputLevel := match record.polarity with | .activeEnergised => .energised | .activeDeenergised => .deenergised
      let latches := candidate = active ∧ live.accepted ≠ some active ∧ record.sense = .edge
      let o := s.overrides
      exec (.debounceExpiry i) s = .next (settleConditions s { s with overrides :=
        { o with
          inputs := o.inputs.set i { live with accepted := some candidate, debounce := none }
          forceLatch := if latches ∧ record.function = .force then o.forceLatch ||| record.mask else o.forceLatch
          limitLatch := if latches ∧ record.function = .limit then o.limitLatch ||| record.mask else o.limitLatch } })

/-! ### The line units -/

/-- The frames of a drive line. A forward frame's 24 cells and its even parity; each transaction's target, command and argument; the levels
its cells drive at their two halves and through the stop, and what their read-back forms: a contention at any difference, and the frame's
end once the stop is over with none (that one level or more is read in the stop is the model's choice, log 25). A backward frame is valid
exactly where every cell changes level at its middle, the start cell is a 1, the line is high through the stop, the parity is even and the
kind answers the command; its flags and level are then its cells'. -/
def Obligations.DriveLineFrames : Prop :=
  (∀ (target : BitVec 7) (command : BitVec 3) (argument : BitVec 10),
     let frame := forwardFrame target command argument
     frame.getLsbD 23 = true ∧ frame.extractLsb' 16 7 = target ∧ frame.extractLsb' 13 3 = command ∧
     frame.extractLsb' 3 10 = argument ∧ frame.extractLsb' 1 2 = 0#2 ∧
     ((List.range 23).countP fun i => frame.getLsbD i) % 2 = 0) ∧
  (∀ (slot : Fin 256) (address : Fin 64) (target : Option (Fin 256 × Fin 64)) (kind : TransactionKind),
     (target = some (slot, address) ∧ kind ≠ .probe ∨ target = none ∧ kind = .probe) →
       frameOf kind target = forwardFrame (if kind = .probe then 127#7 else BitVec.ofNat 7 address.val)
         (match kind with | .level _ => 1#3 | .release _ => 1#3 | .status => 2#3 | .ident => 3#3 | .probe => 2#3)
         (match kind with
           | .level code => BitVec.ofNat 10 code
           | .release _ => 0#10
           | .status => 0#10
           | .ident => 0#10
           | .probe => 0#10)) ∧
  (∀ (line : Fin 4) (u : LineUnit) (levels : List Bool) (ended : Bool),
     (u.driving = none → readBackEvent line u levels ended = none) ∧
     ∀ frame : BitVec 24, u.driving = some frame →
       let driven (half : Nat) : Bool :=
         if 48 ≤ half then true else if half % 2 = 1 then frame.getLsbD (23 - half / 2) else !frame.getLsbD (23 - half / 2)
       let event := readBackEvent line u levels ended
       (event = some (.contention line) ↔ ∃ half : Nat, ∃ level, levels[half]? = some level ∧ level ≠ driven half) ∧
       (event = some (.forwardFrameEnd line) ↔
         ended = true ∧ 48 < levels.length ∧ ∀ half level, levels[half]? = some level → level = driven half) ∧
       (event = none ∨ event = some (.contention line) ∨ event = some (.forwardFrameEnd line))) ∧
  ∀ (kind : TransactionKind) (signal : BackwardSignal) (flags : DriverFlags) (level : Nat),
    let cells := signal.secondHalf
    decodeReply kind signal = some (flags, level) ↔
      (∀ i : Fin 17, signal.firstHalf.getLsbD i.val ≠ cells.getLsbD i.val) ∧ cells.getLsbD 16 = true ∧ signal.stopHigh = true ∧
      ((List.range 16).countP fun i => cells.getLsbD i) % 2 = 0 ∧
      (match kind with
        | .level _ => cells.extractLsb' 14 2 = 1#2
        | .release _ => cells.extractLsb' 14 2 = 1#2
        | .status => cells.extractLsb' 14 2 = 2#2
        | .ident => cells.extractLsb' 14 2 = 3#2
        | .probe => False) ∧
      flags = ⟨cells.getLsbD 13, cells.getLsbD 12, cells.getLsbD 11⟩ ∧ level = (cells.extractLsb' 1 10).toNat

/-- A transaction's phases. The end of a forward frame without contention clears the contention count, a probe's too (log 8), counts a
queued frame and clears the count at a poll, and opens the reply window or a probe's quiet, which is phase gap (log 7). The first edge of
activity garbles the reply before the window opens, begins the backward frame within it, both edges of the window included (log 21), and is
not read after it. The end of a transaction after its gap or its abort, an abort being no transaction in flight with aborting set (log 6);
the expiry of the fault wait; and the end of a clean probe. Nothing else changes. -/
def Obligations.TransactionPhases : Prop :=
  (∀ (s : State) (l : Fin 4) (t : Transaction), s.powered = true → (s.lines.get l).inFlight = some t →
     let u := s.lines.get l
     (t.phase = .forward → exec (.forwardFrameEnd l) s = .next (putLine l
       { u with
         inFlight := some { t with phase := if t.kind = .probe then .gap else .window }
         driving := none
         contentions := 0
         run := match t.kind with
           | .level _ => min 8 (u.run + 1)
           | .release _ => min 8 (u.run + 1)
           | .ident => min 8 (u.run + 1)
           | .status => 0
           | .probe => u.run } s)) ∧
     ∀ micros, t.phase = .window → t.garbled = false →
       exec (.backwardFrameStart l micros) s = .next (putLine l
         { u with inFlight := some (
           if micros < 2000 then { t with garbled := true }
           else if micros ≤ 10000 then { t with phase := .backward }
           else t) } s)) ∧
  ∀ (s : State) (l : Fin 4), s.powered = true →
    let u := s.lines.get l
    (∀ t, u.inFlight = some t → t.phase = .gap → t.kind ≠ .probe →
      exec (.transactionEnd l) s = .next (consider l (putLine l { u with inFlight := none, aborting := false } s))) ∧
    (u.inFlight = none → u.aborting = true →
      exec (.transactionEnd l) s = .next (consider l (putLine l { u with aborting := false } s))) ∧
    (u.faulted = true → u.faultWait.isRunning = true →
      exec (.faultWaitExpiry l) s = .next (putLine l
        { u with
          inFlight := some ⟨.probe, none, .forward, false⟩
          driving := some (forwardFrame 127#7 2#3 0#10)
          faultWait := .idle
          aborting := false } s)) ∧
    ∀ t, u.faulted = true → u.inFlight = some t → t.kind = .probe → t.phase = .gap →
      exec (.probeEnd l) s = .next (consider l (putLine l
        { u with faulted := false, contentions := 0, faultWait := .idle, inFlight := none } s))

/-- A valid reply to a LEVEL or STATUS frame, reported to the entry that still holds the line and address: health by the flags, miss count 0,
verification of a PROVISIONAL entry, confirmed level by a LEVEL's acknowledgement (of a PROVISIONAL entry too, log 14), set level and
request at failure, recovery from it (judged by the health just before, log 23) and verification, the mark and the reports. No other entry
and no other line changes. -/
def Obligations.ReplyApplied : Prop :=
  ∀ (s : State) (l : Fin 4) (k : Fin 256) (address : Fin 64) (kind : TransactionKind) (garbled : Bool)
    (signal : BackwardSignal) (flags : DriverFlags) (level : Nat),
    s.powered = true → (s.lines.get l).inFlight = some ⟨kind, some (k, address), .backward, garbled⟩ →
    (kind = .status ∨ ∃ code, kind = .level code) → decodeReply kind signal = some (flags, level) →
    let e := entryAt s k
    e.state ≠ .free → e.line = l → e.address = address →
      let health : Health := if flags.gearFail then .gearFail else if flags.lampFail then .lampFail
        else if flags.thermal then .derated else .ok
      let bad (h : Health) : Prop := h = .lampFail ∨ h = .gearFail
      let verified := e.state = .provisional
      let fails := bad health ∧ ¬bad e.health
      let recovers := bad e.health ∧ ¬bad health
      let takesPin := verified ∧ ¬bad health ∨ recovers ∧ e.state ≠ .retiring
      let request : Option Nat :=
        if e.state ≠ .provisional ∧ e.state ≠ .active then none
        else if fails then some 0
        else if takesPin then e.pin else none
      let u := s.lines.get l
      exec (.replyOutcome l (some signal)) s = .next
        { s with
          roster :=
            { s.roster with
              slots := s.roster.slots.set k
                { e with
                  state := if verified then .active else e.state
                  health := health
                  miss := 0
                  unreachable := if verified then false else e.unreachable
                  setLevel := if fails then 0 else if takesPin then e.pin.getD e.setLevel else e.setLevel
                  confirmed := if kind = .status then e.confirmed else some level }
              marks := if verified ∨ health ≠ e.health then s.roster.marks ||| blockBit k else s.roster.marks }
          events := (reportIf (decide fails) .entryFail (reportIf (decide (e.health = .lost)) .entryRecovered s)).events
          lines := s.lines.set l
            { u with
              inFlight := some ⟨kind, some (k, address), .gap, garbled⟩
              queue := match request with
                | some code => if lineUsable s l then enqueue ⟨.level code, k, address⟩ u.queue else u.queue
                | none => u.queue } }

/-- A miss, by silence at the close of the window or by a GARBLED frame: the entry's miss count rises to the limit at most, at the limit a
PROVISIONAL entry becomes unreachable and any other LOST, each reported once. A release's miss before the third attempt puts it back at the
tail, unless a request for its address is queued; its third miss and its valid reply free the RETIRING entry that the slot still holds at
that line and address, and change no other. A valid acknowledgement of an IDENT clears the miss count, of a LOST entry too (the model's
reading, log 12). A report that does not match the slot's entry in line and address, or meets a FREE slot, changes nothing but the phase. -/
def Obligations.MissAndRelease : Prop :=
  ∀ (s : State) (l : Fin 4) (k : Fin 256) (address : Fin 64) (t : Transaction) (received : Option BackwardSignal),
    s.powered = true → (s.lines.get l).inFlight = some t → t.target = some (k, address) →
    let e := entryAt s k
    let matching := e.state ≠ .free ∧ e.line = l ∧ e.address = address
    let valid := ∃ signal, received = some signal ∧ t.phase = .backward ∧ decodeReply t.kind signal ≠ none
    let missed := t.phase = .window ∧ received = none ∨
      ∃ signal, received = some signal ∧ t.phase = .backward ∧ decodeReply t.kind signal = none
    let u := s.lines.get l
    let quiet : State := putLine l { u with inFlight := some { t with phase := .gap } } s
    let put (new : Entry) : State := { quiet with roster := { s.roster with slots := s.roster.slots.set k new } }
    let freed : State := { quiet with roster :=
      { s.roster with slots := s.roster.slots.set k Entry.freed, marks := s.roster.marks ||| blockBit k } }
    let count := if e.miss < s.settings.missLimit then e.miss + 1 else e.miss
    let counted : Entry := { e with miss := count }
    (matching → missed → (∀ attempt, t.kind ≠ .release attempt) → t.kind ≠ .probe →
      exec (.replyOutcome l received) s = .next (
        if count < s.settings.missLimit then put counted
        else if e.state = .provisional then
          if e.unreachable then put counted else report .entryUnreachable (put { counted with unreachable := true })
        else if e.health = .lost then put counted
        else report .entryLost (mark k (put { counted with health := .lost })))) ∧
    (∀ attempt, t.kind = .release attempt →
      (missed → attempt < 3 → exec (.replyOutcome l received) s = .next (
        if ∃ r ∈ u.queue, r.address = address then quiet
        else putLine l
          { u with
            inFlight := some { t with phase := .gap }
            queue := u.queue ++ [⟨.release attempt, k, address⟩] } s)) ∧
      (missed ∧ 3 ≤ attempt ∨ valid → exec (.replyOutcome l received) s = .next (
        if e.state = .retiring ∧ e.line = l ∧ e.address = address then freed else quiet))) ∧
    (matching → valid → t.kind = .ident → exec (.replyOutcome l received) s = .next (put { e with miss := 0 })) ∧
    (¬matching → missed ∨ valid → (∀ attempt, t.kind ≠ .release attempt) →
      exec (.replyOutcome l received) s = .next quiet)

/-- What a line unit starts next: nothing unless the line is quiet; the head of its queue while the run count is below 8, after an aborted
poll too (log 24); otherwise a STATUS poll of the first pollable entry from the cursor on, wrapping, with the cursor moved past it. Where an
event has all lines consider, L0 to L3 do so in turn (the model's order, log 10). -/
def Obligations.NextTransaction : Prop :=
  (∀ s : State, considerAll s = (List.finRange 4).foldl (fun t l => consider l t) s) ∧
  ∀ (s : State) (l : Fin 4),
    let u := s.lines.get l
    let isQuiet := s.settings.enables.get l = true ∧ u.faulted = false ∧ u.inFlight = none ∧ u.aborting = false
    let polls (k : Fin 256) : Prop := (entryAt s k).line = l ∧
      ((entryAt s k).state = .provisional ∨ (entryAt s k).state = .active ∨ (entryAt s k).state = .retiring)
    (¬isQuiet → consider l s = s) ∧
    (∀ r rest, isQuiet → u.queue = r :: rest → u.run < 8 →
      let kind : TransactionKind := match r.kind with
        | .level code => .level code
        | .release made => .release (made + 1)
        | .ident => .ident
      consider l s = putLine l
        { u with
          queue := rest
          inFlight := some ⟨kind, some (r.slot, r.address), .forward, false⟩
          driving := some (frameOf kind (some (r.slot, r.address))) } s) ∧
    (isQuiet → u.queue = [] ∨ 8 ≤ u.run →
      ((∀ k, ¬polls k) → consider l s = s) ∧
      ∀ k, polls k → (∀ j, polls j → k - u.cursor ≤ j - u.cursor) →
        consider l s = putLine l
          { u with
            cursor := k + 1
            inFlight := some ⟨.status, some (k, (entryAt s k).address), .forward, false⟩
            driving := some (frameOf .status (some (k, (entryAt s k).address))) } s)


/-- A contention: below the fourth in a row the frame is aborted (no transaction is then in flight, log 6) and counted, a queued frame
returns to the head of the queue where its entry still wants it and nothing newer is queued, and a poll sets the cursor back; the fourth
faults the line and leaves the cursor (log 18), empties its queue, frees the entries whose releases it held, sets the marks of their blocks
and no others, and makes the line's confirmed levels NONE; a probe's starts the fault wait anew. -/
def Obligations.ContentionRule : Prop :=
  ∀ (s : State) (l : Fin 4) (t : Transaction), s.powered = true → (s.lines.get l).inFlight = some t →
    t.phase = .forward →
    let u := s.lines.get l
    let cut (new : LineUnit) : State := putLine l { new with inFlight := none, driving := none, aborting := true } s
    (u.faulted = true → exec (.contention l) s = .next (cut { u with faultWait := .running 2000 })) ∧
    (u.faulted = false → u.contentions < 3 →
      (t.target = none → exec (.contention l) s = .next (cut { u with contentions := u.contentions + 1 })) ∧
      ∀ k address, t.target = some (k, address) →
        let e := entryAt s k
        let goesBack (wanted : EntryState) : Prop :=
          e.state = wanted ∧ e.line = l ∧ e.address = address ∧ ∀ r ∈ u.queue, r.address ≠ address
        exec (.contention l) s = .next (cut (
          match t.kind with
          | .level code =>
              if goesBack .active then
                { u with contentions := u.contentions + 1, queue := ⟨.level code, k, address⟩ :: u.queue }
              else { u with contentions := u.contentions + 1 }
          | .ident =>
              if goesBack .active then
                { u with contentions := u.contentions + 1, queue := ⟨.ident, k, address⟩ :: u.queue }
              else { u with contentions := u.contentions + 1 }
          | .release attempt =>
              if goesBack .retiring then
                { u with contentions := u.contentions + 1, queue := ⟨.release (attempt - 1), k, address⟩ :: u.queue }
              else { u with contentions := u.contentions + 1 }
          | .status => { u with contentions := u.contentions + 1, cursor := k }
          | .probe => { u with contentions := u.contentions + 1, cursor := k }))) ∧
    (u.faulted = false → 3 ≤ u.contentions →
      ∃ roster, exec (.contention l) s = .next (report (.lineFault l)
        { cut { u with
            faulted := true, queue := [], contentions := 4, run := 0, faultWait := .running 2000 } with roster := roster }) ∧
      roster.window = s.roster.window ∧ roster.ageTick = s.roster.ageTick ∧
      let frees (k : Fin 256) : Prop :=
        let e := entryAt s k
        e.state = .retiring ∧ e.line = l ∧ (releaseQueued u k e.address || releaseInFlight u k e.address) = true
      (∀ m : Fin 32, roster.marks.getLsbD m.val = true ↔
        s.roster.marks.getLsbD m.val = true ∨ ∃ k, frees k ∧ k.val / 8 = m.val) ∧
      ∀ k, let e := entryAt s k
        roster.slots.get k =
          if frees k then Entry.freed
          else if e.state ≠ .free ∧ e.line = l then { e with confirmed := none } else e)

/-- SET_LINES: its checks, and its effect. The enables and the miss limit are written; a changed limit lowers every entry's count to it and
sets the count of a LOST or unreachable entry to it; a line whose enable stays keeps its state; a disabled line abandons everything
but its cursor, frees the entries whose releases it held, sets the marks of their blocks and no others, and makes its confirmed levels
NONE; an enabled one considers. -/
def Obligations.SetLinesResult : Prop :=
  ∀ (s : State) (enables : BitVec 8) (missLimit : Nat), hears s = true →
    (enables.extractLsb' 4 4 ≠ 0#4 → exec (.setLines enables missLimit) s = .next (refusedAs s .format)) ∧
    (enables.extractLsb' 4 4 = 0#4 → missLimit < 1 ∨ 7 < missLimit →
      exec (.setLines enables missLimit) s = .next (refusedAs s .range)) ∧
    (enables.extractLsb' 4 4 = 0#4 → 1 ≤ missLimit → missLimit ≤ 7 → storeWriting s = true →
      exec (.setLines enables missLimit) s = .next (refusedAs s .busy)) ∧
    (enables.extractLsb' 4 4 = 0#4 → 1 ≤ missLimit → missLimit ≤ 7 → storeWriting s = false →
      ∃ t, exec (.setLines enables missLimit) s = .next (takenAs s t []) ∧
        { t with settings := s.settings, roster := s.roster, lines := s.lines } = s ∧
        { t.settings with enables := s.settings.enables, missLimit := s.settings.missLimit } = s.settings ∧
        (∀ l : Fin 4, t.settings.enables.get l = enables.getLsbD l.val) ∧ t.settings.missLimit = missLimit ∧
        t.roster.window = none ∧ t.roster.ageTick = s.roster.ageTick ∧
        (∀ l : Fin 4, let u := s.lines.get l
          (s.settings.enables.get l = enables.getLsbD l.val → t.lines.get l = u) ∧
          (s.settings.enables.get l = true → enables.getLsbD l.val = false →
            t.lines.get l = { LineUnit.initial with cursor := u.cursor }) ∧
          (s.settings.enables.get l = false → enables.getLsbD l.val = true →
            t.lines.get l = (consider l { s with settings :=
              { s.settings with enables := s.settings.enables.set l true } }).lines.get l)) ∧
        let frees (k : Fin 256) : Prop :=
          let e := entryAt s k
          let u := s.lines.get e.line
          s.settings.enables.get e.line = true ∧ enables.getLsbD e.line.val = false ∧ e.state = .retiring ∧
            (releaseQueued u k e.address || releaseInFlight u k e.address) = true
        (∀ m : Fin 32, t.roster.marks.getLsbD m.val = true ↔
          s.roster.marks.getLsbD m.val = true ∨ ∃ k, frees k ∧ k.val / 8 = m.val) ∧
        ∀ k, let e := entryAt s k
          let disabled := s.settings.enables.get e.line && !enables.getLsbD e.line.val
          let limited : Entry :=
            if missLimit = s.settings.missLimit ∨ e.state = .free then e
            else { e with miss := if e.health = .lost ∨ e.unreachable then missLimit else min e.miss missLimit }
          t.roster.slots.get k =
            if frees k then Entry.freed
            else if disabled = true ∧ e.state ≠ .free then { limited with confirmed := none } else limited)

/-! ### The event unit and the settings store -/

/-- What a report does, and the commands of the flags. A report sets the flag at the position that the table of 9.1 gives its event, keeps
every other flag, forms the output and changes nothing else. SET_MASK is refused with BUSY while the store is WRITING, and otherwise replaces
the mask and forms the output; CLEAR_EVENTS is always taken, clears the flags whose positions are set, forms the output, and returns the
flags it leaves. Nothing else changes. -/
def Obligations.MaskAndFlagCommands : Prop :=
  let formed (flags mask : BitVec 48) : FaultOutput :=
    if ∃ i : Fin 48, flags.getLsbD i.val = true ∧ mask.getLsbD i.val = false then .released else .conducting
  (∀ e : Event,
    let position : Nat :=
      match e with
      | .chInvalid channel => channel.val
      | .chLimit channel => 8 + channel.val
      | .pDisagree portal => 16 + portal.val
      | .pHold portal => 20 + portal.val
      | .pFallback portal => 24 + portal.val
      | .pShort portal => 28 + portal.val
      | .pDark portal => 32 + portal.val
      | .lineFault line => 36 + line.val
      | .entryFail => 40
      | .entryLost => 41
      | .entryRecovered => 42
      | .entryUnreachable => 43
      | .scanSkip => 44
      | .forceOn => 45
      | .storeFail => 46
      | .storeBad => 47
    (∀ i : Fin 48, (flagBit e).getLsbD i.val = true ↔ i.val = position) ∧
    ∀ s : State, ∃ left : BitVec 48,
      (∀ i : Fin 48, left.getLsbD i.val = if i.val = position then true else s.events.flags.getLsbD i.val) ∧
      report e s = { s with events := ⟨left, formed left s.settings.mask⟩ }) ∧
  ∀ s : State, hears s = true →
    (∀ mask, exec (.setMask mask) s = .next (
      if storeWriting s then refusedAs s .busy
      else takenAs s
        { closeWindow s with
          settings := { s.settings with mask := mask }
          events := ⟨s.events.flags, formed s.events.flags mask⟩ } [])) ∧
    ∀ mask, ∃ left : BitVec 48,
      (∀ i : Fin 48, left.getLsbD i.val = (s.events.flags.getLsbD i.val && !mask.getLsbD i.val)) ∧
      exec (.clearEvents mask) s = .next (takenAs s
        { closeWindow s with events := ⟨left, formed left s.settings.mask⟩ } (maskBytes6 left))

/-- STORE while WRITING is refused with BUSY; otherwise it begins a write of a snapshot of the settings and of the stored fields of each
slot, a RETIRING entry as FREE, with the completion record incomplete; every step but a matching end of that write keeps it incomplete,
after a loss of power or a reset cut the write off too. A write whose read-back matches leaves that snapshot as a good image; one that does
not leaves the completion record incomplete, and so the image bad, the store FAILED and STORE_FAIL reported (that the image's former content
stays in the model is its choice, log 15). -/
def Obligations.StoreResult : Prop :=
  (∀ s : State, hears s = true →
    ∃ snapshot : Image, snapshot.settings = s.settings ∧
      (∀ k, let e := entryAt s k
        snapshot.slots.get k =
          if e.state = .free ∨ e.state = .retiring then Entry.freed
          else { e with health := .unknown, miss := 0, unreachable := false, setLevel := 0, confirmed := none, sub := 0 }) ∧
      exec .store s = .next (
        if storeWriting s then refusedAs s .busy
        else takenAs s { closeWindow s with store :=
          { s.store with state := .writing snapshot, complete := false } } [])) ∧
  (∀ (s : State) (snapshot : Image), s.powered = true → s.store.state = .writing snapshot →
     (∃ check, exec (.storeWriteComplete true) s = .next { s with store :=
         { state := .idle, image := snapshot, check := check, complete := true } } ∧
       imageGood { state := .idle, image := snapshot, check := check, complete := true } = true) ∧
     exec (.storeWriteComplete false) s = .next (report .storeFail { s with store := { s.store with state := .failed } }) ∧
     (UnfinishedIsBad s → imageGood { s.store with state := .failed } = false)) ∧
  (∀ s t : State, UnfinishedIsBad s → step s = .next t → UnfinishedIsBad t) ∧
  ∀ s t : State, s.store.complete = false →
    ¬(s.powered = true ∧ s.pending.head? = some (.storeWriteComplete true) ∧ ∃ snapshot, s.store.state = .writing snapshot) →
      step s = .next t → t.store.complete = false

/-! ### Invariants -/

/-- No two non-FREE entries come to hold the same line and address: every step keeps it, in working memory, in the image and in the
snapshot being written. -/
def Obligations.ChannelsStayDistinct : Prop :=
  ∀ s t : State, RosterDistinct s → step s = .next t → RosterDistinct t

/-- Each line's queue keeps at most one request for each address, and a line drives the frame of its transaction while that is in its FORWARD
phase and nothing otherwise: every step keeps both. -/
def Obligations.QueuesStayKeyed : Prop :=
  (∀ s t : State, QueuesKeyed s → step s = .next t → QueuesKeyed t) ∧
  ∀ s t : State, DrivesForward s → step s = .next t → DrivesForward t

/-- The fault output is released while unpowered or while an unmasked flag is set, and conducts otherwise: every step keeps it. -/
def Obligations.OutputFollowsFlags : Prop :=
  ∀ s t : State, OutputFormed s → step s = .next t → OutputFormed t

/-- The commanded luminances of every portal descend inward after every step. -/
def Obligations.EntrancesStayDescending : Prop :=
  ∀ s t : State, EntrancesDescend s → step s = .next t → EntrancesDescend t

/-- Every setting stays within its range, the maintenance thresholds' upper end included, in working memory, in the image, in a snapshot
being written and in a SET_LINK held back, where the waiting commands fit their messages (the queue is the model's, log 19); and an open
window's cursor stays between its first slot and one past its last: every step keeps both. -/
def Obligations.RangesKept : Prop :=
  (∀ s t : State, RangesHold s → step s = .next t → RangesHold t) ∧
  ∀ s t : State, WindowBounded s → step s = .next t → WindowBounded t

/-- Every entry stays as R2 has it: a FREE slot holds every FREE value; any other holds a q from 1 to 9,999; age, sub-count, pin, levels and
miss count stay in their ranges, the miss count at most the limit, and unreachable is yes in PROVISIONAL and SUSPENDED alone: every step
keeps it while the settings are in range and the waiting commands fit their messages, in working memory, in the image and in a snapshot
being written. -/
def Obligations.EntriesStayInRange : Prop :=
  ∀ s t : State, RangesHold s → EntriesInRange s → step s = .next t → EntriesInRange t

/-- The reset state meets the invariants: no two entries with one line and address, an open window in its bounds, at most one request for
each address, the driven frame its transaction's, the fault output as its flags form it, commanded luminances that descend inward, every
setting and every entry in range, and no good record beside an unfinished write. -/
def Obligations.ResetMeetsInvariants : Prop :=
  RosterDistinct State.reset ∧ WindowBounded State.reset ∧ QueuesKeyed State.reset ∧ DrivesForward State.reset ∧
    OutputFormed State.reset ∧ EntrancesDescend State.reset ∧ RangesHold State.reset ∧ EntriesInRange State.reset ∧
    UnfinishedIsBad State.reset
end

