-- ==== Sys2Proof/Laws/State.lean ====
section
/-! SUPPORT. What each update of the state leaves in each field, one lemma a field. -/

namespace Sys2Proof.Machine

open Sys2Proof

/-! ### putEntry -/

@[simp] theorem putEntry_powered (k : Fin 256) (e : Entry) (s : State) : (putEntry k e s).powered = s.powered := rfl
@[simp] theorem putEntry_settings (k : Fin 256) (e : Entry) (s : State) :
    (putEntry k e s).settings = s.settings := rfl
@[simp] theorem putEntry_roster (k : Fin 256) (e : Entry) (s : State) :
    (putEntry k e s).roster = { s.roster with slots := s.roster.slots.set k e } := rfl
@[simp] theorem putEntry_scanner (k : Fin 256) (e : Entry) (s : State) : (putEntry k e s).scanner = s.scanner := rfl
@[simp] theorem putEntry_portals (k : Fin 256) (e : Entry) (s : State) : (putEntry k e s).portals = s.portals := rfl
@[simp] theorem putEntry_overrides (k : Fin 256) (e : Entry) (s : State) :
    (putEntry k e s).overrides = s.overrides := rfl
@[simp] theorem putEntry_lines (k : Fin 256) (e : Entry) (s : State) : (putEntry k e s).lines = s.lines := rfl
@[simp] theorem putEntry_link (k : Fin 256) (e : Entry) (s : State) : (putEntry k e s).link = s.link := rfl
@[simp] theorem putEntry_events (k : Fin 256) (e : Entry) (s : State) : (putEntry k e s).events = s.events := rfl
@[simp] theorem putEntry_store (k : Fin 256) (e : Entry) (s : State) : (putEntry k e s).store = s.store := rfl
@[simp] theorem putEntry_pending (k : Fin 256) (e : Entry) (s : State) : (putEntry k e s).pending = s.pending := rfl

/-! ### mark -/

@[simp] theorem mark_powered (k : Fin 256) (s : State) : (mark k s).powered = s.powered := rfl
@[simp] theorem mark_settings (k : Fin 256) (s : State) : (mark k s).settings = s.settings := rfl
@[simp] theorem mark_roster (k : Fin 256) (s : State) :
    (mark k s).roster = { s.roster with marks := s.roster.marks ||| blockBit k } := rfl
@[simp] theorem mark_scanner (k : Fin 256) (s : State) : (mark k s).scanner = s.scanner := rfl
@[simp] theorem mark_portals (k : Fin 256) (s : State) : (mark k s).portals = s.portals := rfl
@[simp] theorem mark_overrides (k : Fin 256) (s : State) : (mark k s).overrides = s.overrides := rfl
@[simp] theorem mark_lines (k : Fin 256) (s : State) : (mark k s).lines = s.lines := rfl
@[simp] theorem mark_link (k : Fin 256) (s : State) : (mark k s).link = s.link := rfl
@[simp] theorem mark_events (k : Fin 256) (s : State) : (mark k s).events = s.events := rfl
@[simp] theorem mark_store (k : Fin 256) (s : State) : (mark k s).store = s.store := rfl
@[simp] theorem mark_pending (k : Fin 256) (s : State) : (mark k s).pending = s.pending := rfl

/-! ### closeWindow -/

@[simp] theorem closeWindow_powered (s : State) : (closeWindow s).powered = s.powered := rfl
@[simp] theorem closeWindow_settings (s : State) : (closeWindow s).settings = s.settings := rfl
@[simp] theorem closeWindow_roster (s : State) : (closeWindow s).roster = { s.roster with window := none } := rfl
@[simp] theorem closeWindow_scanner (s : State) : (closeWindow s).scanner = s.scanner := rfl
@[simp] theorem closeWindow_portals (s : State) : (closeWindow s).portals = s.portals := rfl
@[simp] theorem closeWindow_overrides (s : State) : (closeWindow s).overrides = s.overrides := rfl
@[simp] theorem closeWindow_lines (s : State) : (closeWindow s).lines = s.lines := rfl
@[simp] theorem closeWindow_link (s : State) : (closeWindow s).link = s.link := rfl
@[simp] theorem closeWindow_events (s : State) : (closeWindow s).events = s.events := rfl
@[simp] theorem closeWindow_store (s : State) : (closeWindow s).store = s.store := rfl
@[simp] theorem closeWindow_pending (s : State) : (closeWindow s).pending = s.pending := rfl

/-! ### withWindow -/

@[simp] theorem withWindow_powered (w : Window) (s : State) : (withWindow w s).powered = s.powered := rfl
@[simp] theorem withWindow_settings (w : Window) (s : State) : (withWindow w s).settings = s.settings := rfl
@[simp] theorem withWindow_roster (w : Window) (s : State) :
    (withWindow w s).roster = { s.roster with window := some w } := rfl
@[simp] theorem withWindow_scanner (w : Window) (s : State) : (withWindow w s).scanner = s.scanner := rfl
@[simp] theorem withWindow_portals (w : Window) (s : State) : (withWindow w s).portals = s.portals := rfl
@[simp] theorem withWindow_overrides (w : Window) (s : State) : (withWindow w s).overrides = s.overrides := rfl
@[simp] theorem withWindow_lines (w : Window) (s : State) : (withWindow w s).lines = s.lines := rfl
@[simp] theorem withWindow_link (w : Window) (s : State) : (withWindow w s).link = s.link := rfl
@[simp] theorem withWindow_events (w : Window) (s : State) : (withWindow w s).events = s.events := rfl
@[simp] theorem withWindow_store (w : Window) (s : State) : (withWindow w s).store = s.store := rfl
@[simp] theorem withWindow_pending (w : Window) (s : State) : (withWindow w s).pending = s.pending := rfl

/-! ### clearConfirmed -/

@[simp] theorem clearConfirmed_powered (l : Fin 4) (s : State) : (clearConfirmed l s).powered = s.powered := rfl
@[simp] theorem clearConfirmed_settings (l : Fin 4) (s : State) : (clearConfirmed l s).settings = s.settings := rfl
@[simp] theorem clearConfirmed_scanner (l : Fin 4) (s : State) : (clearConfirmed l s).scanner = s.scanner := rfl
@[simp] theorem clearConfirmed_portals (l : Fin 4) (s : State) : (clearConfirmed l s).portals = s.portals := rfl
@[simp] theorem clearConfirmed_overrides (l : Fin 4) (s : State) : (clearConfirmed l s).overrides = s.overrides := rfl
@[simp] theorem clearConfirmed_lines (l : Fin 4) (s : State) : (clearConfirmed l s).lines = s.lines := rfl
@[simp] theorem clearConfirmed_link (l : Fin 4) (s : State) : (clearConfirmed l s).link = s.link := rfl
@[simp] theorem clearConfirmed_events (l : Fin 4) (s : State) : (clearConfirmed l s).events = s.events := rfl
@[simp] theorem clearConfirmed_store (l : Fin 4) (s : State) : (clearConfirmed l s).store = s.store := rfl
@[simp] theorem clearConfirmed_pending (l : Fin 4) (s : State) : (clearConfirmed l s).pending = s.pending := rfl

/-! ### modifyLine -/

@[simp] theorem modifyLine_powered (l : Fin 4) (f : LineUnit → LineUnit) (s : State) :
    (modifyLine l f s).powered = s.powered := rfl
@[simp] theorem modifyLine_settings (l : Fin 4) (f : LineUnit → LineUnit) (s : State) :
    (modifyLine l f s).settings = s.settings := rfl
@[simp] theorem modifyLine_roster (l : Fin 4) (f : LineUnit → LineUnit) (s : State) :
    (modifyLine l f s).roster = s.roster := rfl
@[simp] theorem modifyLine_scanner (l : Fin 4) (f : LineUnit → LineUnit) (s : State) :
    (modifyLine l f s).scanner = s.scanner := rfl
@[simp] theorem modifyLine_portals (l : Fin 4) (f : LineUnit → LineUnit) (s : State) :
    (modifyLine l f s).portals = s.portals := rfl
@[simp] theorem modifyLine_overrides (l : Fin 4) (f : LineUnit → LineUnit) (s : State) :
    (modifyLine l f s).overrides = s.overrides := rfl
@[simp] theorem modifyLine_lines (l : Fin 4) (f : LineUnit → LineUnit) (s : State) :
    (modifyLine l f s).lines = s.lines.modify l f := rfl
@[simp] theorem modifyLine_link (l : Fin 4) (f : LineUnit → LineUnit) (s : State) :
    (modifyLine l f s).link = s.link := rfl
@[simp] theorem modifyLine_events (l : Fin 4) (f : LineUnit → LineUnit) (s : State) :
    (modifyLine l f s).events = s.events := rfl
@[simp] theorem modifyLine_store (l : Fin 4) (f : LineUnit → LineUnit) (s : State) :
    (modifyLine l f s).store = s.store := rfl
@[simp] theorem modifyLine_pending (l : Fin 4) (f : LineUnit → LineUnit) (s : State) :
    (modifyLine l f s).pending = s.pending := rfl

/-! ### withdraw -/

@[simp] theorem withdraw_powered (l : Fin 4) (a : Fin 64) (s : State) : (withdraw l a s).powered = s.powered := rfl
@[simp] theorem withdraw_settings (l : Fin 4) (a : Fin 64) (s : State) : (withdraw l a s).settings = s.settings := rfl
@[simp] theorem withdraw_roster (l : Fin 4) (a : Fin 64) (s : State) : (withdraw l a s).roster = s.roster := rfl
@[simp] theorem withdraw_scanner (l : Fin 4) (a : Fin 64) (s : State) : (withdraw l a s).scanner = s.scanner := rfl
@[simp] theorem withdraw_portals (l : Fin 4) (a : Fin 64) (s : State) : (withdraw l a s).portals = s.portals := rfl
@[simp] theorem withdraw_overrides (l : Fin 4) (a : Fin 64) (s : State) :
    (withdraw l a s).overrides = s.overrides := rfl
@[simp] theorem withdraw_lines (l : Fin 4) (a : Fin 64) (s : State) :
    (withdraw l a s).lines = s.lines.modify l fun u => { u with queue := u.queue.filter fun r => decide (r.address ≠ a) } := rfl
@[simp] theorem withdraw_link (l : Fin 4) (a : Fin 64) (s : State) : (withdraw l a s).link = s.link := rfl
@[simp] theorem withdraw_events (l : Fin 4) (a : Fin 64) (s : State) : (withdraw l a s).events = s.events := rfl
@[simp] theorem withdraw_store (l : Fin 4) (a : Fin 64) (s : State) : (withdraw l a s).store = s.store := rfl
@[simp] theorem withdraw_pending (l : Fin 4) (a : Fin 64) (s : State) : (withdraw l a s).pending = s.pending := rfl

/-! ### modifyPortal -/

@[simp] theorem modifyPortal_powered (p : Fin 4) (f : PortalLive → PortalLive) (s : State) :
    (modifyPortal p f s).powered = s.powered := rfl
@[simp] theorem modifyPortal_settings (p : Fin 4) (f : PortalLive → PortalLive) (s : State) :
    (modifyPortal p f s).settings = s.settings := rfl
@[simp] theorem modifyPortal_roster (p : Fin 4) (f : PortalLive → PortalLive) (s : State) :
    (modifyPortal p f s).roster = s.roster := rfl
@[simp] theorem modifyPortal_scanner (p : Fin 4) (f : PortalLive → PortalLive) (s : State) :
    (modifyPortal p f s).scanner = s.scanner := rfl
@[simp] theorem modifyPortal_portals (p : Fin 4) (f : PortalLive → PortalLive) (s : State) :
    (modifyPortal p f s).portals = s.portals.modify p f := rfl
@[simp] theorem modifyPortal_overrides (p : Fin 4) (f : PortalLive → PortalLive) (s : State) :
    (modifyPortal p f s).overrides = s.overrides := rfl
@[simp] theorem modifyPortal_lines (p : Fin 4) (f : PortalLive → PortalLive) (s : State) :
    (modifyPortal p f s).lines = s.lines := rfl
@[simp] theorem modifyPortal_link (p : Fin 4) (f : PortalLive → PortalLive) (s : State) :
    (modifyPortal p f s).link = s.link := rfl
@[simp] theorem modifyPortal_events (p : Fin 4) (f : PortalLive → PortalLive) (s : State) :
    (modifyPortal p f s).events = s.events := rfl
@[simp] theorem modifyPortal_store (p : Fin 4) (f : PortalLive → PortalLive) (s : State) :
    (modifyPortal p f s).store = s.store := rfl
@[simp] theorem modifyPortal_pending (p : Fin 4) (f : PortalLive → PortalLive) (s : State) :
    (modifyPortal p f s).pending = s.pending := rfl

/-! ### modifyPortalConfig -/

@[simp] theorem modifyPortalConfig_powered (p : Fin 4) (f : PortalConfig → PortalConfig) (s : State) :
    (modifyPortalConfig p f s).powered = s.powered := rfl
@[simp] theorem modifyPortalConfig_settings (p : Fin 4) (f : PortalConfig → PortalConfig) (s : State) :
    (modifyPortalConfig p f s).settings = { s.settings with portals := s.settings.portals.modify p f } := rfl
@[simp] theorem modifyPortalConfig_roster (p : Fin 4) (f : PortalConfig → PortalConfig) (s : State) :
    (modifyPortalConfig p f s).roster = s.roster := rfl
@[simp] theorem modifyPortalConfig_scanner (p : Fin 4) (f : PortalConfig → PortalConfig) (s : State) :
    (modifyPortalConfig p f s).scanner = s.scanner := rfl
@[simp] theorem modifyPortalConfig_portals (p : Fin 4) (f : PortalConfig → PortalConfig) (s : State) :
    (modifyPortalConfig p f s).portals = s.portals := rfl
@[simp] theorem modifyPortalConfig_overrides (p : Fin 4) (f : PortalConfig → PortalConfig) (s : State) :
    (modifyPortalConfig p f s).overrides = s.overrides := rfl
@[simp] theorem modifyPortalConfig_lines (p : Fin 4) (f : PortalConfig → PortalConfig) (s : State) :
    (modifyPortalConfig p f s).lines = s.lines := rfl
@[simp] theorem modifyPortalConfig_link (p : Fin 4) (f : PortalConfig → PortalConfig) (s : State) :
    (modifyPortalConfig p f s).link = s.link := rfl
@[simp] theorem modifyPortalConfig_events (p : Fin 4) (f : PortalConfig → PortalConfig) (s : State) :
    (modifyPortalConfig p f s).events = s.events := rfl
@[simp] theorem modifyPortalConfig_store (p : Fin 4) (f : PortalConfig → PortalConfig) (s : State) :
    (modifyPortalConfig p f s).store = s.store := rfl
@[simp] theorem modifyPortalConfig_pending (p : Fin 4) (f : PortalConfig → PortalConfig) (s : State) :
    (modifyPortalConfig p f s).pending = s.pending := rfl

/-! ### withFlags -/

@[simp] theorem withFlags_powered (f : BitVec 48) (s : State) : (withFlags f s).powered = s.powered := rfl
@[simp] theorem withFlags_settings (f : BitVec 48) (s : State) : (withFlags f s).settings = s.settings := rfl
@[simp] theorem withFlags_roster (f : BitVec 48) (s : State) : (withFlags f s).roster = s.roster := rfl
@[simp] theorem withFlags_scanner (f : BitVec 48) (s : State) : (withFlags f s).scanner = s.scanner := rfl
@[simp] theorem withFlags_portals (f : BitVec 48) (s : State) : (withFlags f s).portals = s.portals := rfl
@[simp] theorem withFlags_overrides (f : BitVec 48) (s : State) : (withFlags f s).overrides = s.overrides := rfl
@[simp] theorem withFlags_lines (f : BitVec 48) (s : State) : (withFlags f s).lines = s.lines := rfl
@[simp] theorem withFlags_link (f : BitVec 48) (s : State) : (withFlags f s).link = s.link := rfl
@[simp] theorem withFlags_events (f : BitVec 48) (s : State) :
    (withFlags f s).events = ⟨f, faultOutputOf f s.settings.mask⟩ := rfl
@[simp] theorem withFlags_store (f : BitVec 48) (s : State) : (withFlags f s).store = s.store := rfl
@[simp] theorem withFlags_pending (f : BitVec 48) (s : State) : (withFlags f s).pending = s.pending := rfl

/-! ### report -/

@[simp] theorem report_powered (e : Event) (s : State) : (report e s).powered = s.powered := rfl
@[simp] theorem report_settings (e : Event) (s : State) : (report e s).settings = s.settings := rfl
@[simp] theorem report_roster (e : Event) (s : State) : (report e s).roster = s.roster := rfl
@[simp] theorem report_scanner (e : Event) (s : State) : (report e s).scanner = s.scanner := rfl
@[simp] theorem report_portals (e : Event) (s : State) : (report e s).portals = s.portals := rfl
@[simp] theorem report_overrides (e : Event) (s : State) : (report e s).overrides = s.overrides := rfl
@[simp] theorem report_lines (e : Event) (s : State) : (report e s).lines = s.lines := rfl
@[simp] theorem report_link (e : Event) (s : State) : (report e s).link = s.link := rfl
@[simp] theorem report_events (e : Event) (s : State) :
    (report e s).events = ⟨s.events.flags ||| flagBit e, faultOutputOf (s.events.flags ||| flagBit e) s.settings.mask⟩ := rfl
@[simp] theorem report_store (e : Event) (s : State) : (report e s).store = s.store := rfl
@[simp] theorem report_pending (e : Event) (s : State) : (report e s).pending = s.pending := rfl

/-! ### withReceive -/

@[simp] theorem withReceive_powered (r : Receive) (s : State) : (withReceive r s).powered = s.powered := rfl
@[simp] theorem withReceive_settings (r : Receive) (s : State) : (withReceive r s).settings = s.settings := rfl
@[simp] theorem withReceive_roster (r : Receive) (s : State) : (withReceive r s).roster = s.roster := rfl
@[simp] theorem withReceive_scanner (r : Receive) (s : State) : (withReceive r s).scanner = s.scanner := rfl
@[simp] theorem withReceive_portals (r : Receive) (s : State) : (withReceive r s).portals = s.portals := rfl
@[simp] theorem withReceive_overrides (r : Receive) (s : State) : (withReceive r s).overrides = s.overrides := rfl
@[simp] theorem withReceive_lines (r : Receive) (s : State) : (withReceive r s).lines = s.lines := rfl
@[simp] theorem withReceive_events (r : Receive) (s : State) : (withReceive r s).events = s.events := rfl
@[simp] theorem withReceive_store (r : Receive) (s : State) : (withReceive r s).store = s.store := rfl
@[simp] theorem withReceive_pending (r : Receive) (s : State) : (withReceive r s).pending = s.pending := rfl

/-! ### withScanner -/

@[simp] theorem withScanner_powered (f : Scanner → Scanner) (s : State) : (withScanner f s).powered = s.powered := rfl
@[simp] theorem withScanner_settings (f : Scanner → Scanner) (s : State) :
    (withScanner f s).settings = s.settings := rfl
@[simp] theorem withScanner_roster (f : Scanner → Scanner) (s : State) : (withScanner f s).roster = s.roster := rfl
@[simp] theorem withScanner_scanner (f : Scanner → Scanner) (s : State) :
    (withScanner f s).scanner = f s.scanner := rfl
@[simp] theorem withScanner_portals (f : Scanner → Scanner) (s : State) : (withScanner f s).portals = s.portals := rfl
@[simp] theorem withScanner_overrides (f : Scanner → Scanner) (s : State) :
    (withScanner f s).overrides = s.overrides := rfl
@[simp] theorem withScanner_lines (f : Scanner → Scanner) (s : State) : (withScanner f s).lines = s.lines := rfl
@[simp] theorem withScanner_link (f : Scanner → Scanner) (s : State) : (withScanner f s).link = s.link := rfl
@[simp] theorem withScanner_events (f : Scanner → Scanner) (s : State) : (withScanner f s).events = s.events := rfl
@[simp] theorem withScanner_store (f : Scanner → Scanner) (s : State) : (withScanner f s).store = s.store := rfl
@[simp] theorem withScanner_pending (f : Scanner → Scanner) (s : State) : (withScanner f s).pending = s.pending := rfl

/-! ### withStore -/

@[simp] theorem withStore_powered (f : Store → Store) (s : State) : (withStore f s).powered = s.powered := rfl
@[simp] theorem withStore_settings (f : Store → Store) (s : State) : (withStore f s).settings = s.settings := rfl
@[simp] theorem withStore_roster (f : Store → Store) (s : State) : (withStore f s).roster = s.roster := rfl
@[simp] theorem withStore_scanner (f : Store → Store) (s : State) : (withStore f s).scanner = s.scanner := rfl
@[simp] theorem withStore_portals (f : Store → Store) (s : State) : (withStore f s).portals = s.portals := rfl
@[simp] theorem withStore_overrides (f : Store → Store) (s : State) : (withStore f s).overrides = s.overrides := rfl
@[simp] theorem withStore_lines (f : Store → Store) (s : State) : (withStore f s).lines = s.lines := rfl
@[simp] theorem withStore_link (f : Store → Store) (s : State) : (withStore f s).link = s.link := rfl
@[simp] theorem withStore_events (f : Store → Store) (s : State) : (withStore f s).events = s.events := rfl
@[simp] theorem withStore_store (f : Store → Store) (s : State) : (withStore f s).store = f s.store := rfl
@[simp] theorem withStore_pending (f : Store → Store) (s : State) : (withStore f s).pending = s.pending := rfl

/-! ### withInput -/

@[simp] theorem withInput_powered (i : Fin 6) (v : InputLive) (s : State) :
    (withInput i v s).powered = s.powered := rfl
@[simp] theorem withInput_settings (i : Fin 6) (v : InputLive) (s : State) :
    (withInput i v s).settings = s.settings := rfl
@[simp] theorem withInput_roster (i : Fin 6) (v : InputLive) (s : State) : (withInput i v s).roster = s.roster := rfl
@[simp] theorem withInput_scanner (i : Fin 6) (v : InputLive) (s : State) :
    (withInput i v s).scanner = s.scanner := rfl
@[simp] theorem withInput_portals (i : Fin 6) (v : InputLive) (s : State) :
    (withInput i v s).portals = s.portals := rfl
@[simp] theorem withInput_overrides (i : Fin 6) (v : InputLive) (s : State) :
    (withInput i v s).overrides = { s.overrides with inputs := s.overrides.inputs.set i v } := rfl
@[simp] theorem withInput_lines (i : Fin 6) (v : InputLive) (s : State) : (withInput i v s).lines = s.lines := rfl
@[simp] theorem withInput_link (i : Fin 6) (v : InputLive) (s : State) : (withInput i v s).link = s.link := rfl
@[simp] theorem withInput_events (i : Fin 6) (v : InputLive) (s : State) : (withInput i v s).events = s.events := rfl
@[simp] theorem withInput_store (i : Fin 6) (v : InputLive) (s : State) : (withInput i v s).store = s.store := rfl
@[simp] theorem withInput_pending (i : Fin 6) (v : InputLive) (s : State) :
    (withInput i v s).pending = s.pending := rfl

/-! ### writeLink -/

@[simp] theorem writeLink_powered (n : Nat) (b : Baud) (s : State) : (writeLink n b s).powered = s.powered := rfl
@[simp] theorem writeLink_settings (n : Nat) (b : Baud) (s : State) :
    (writeLink n b s).settings = { s.settings with station := n, baud := b } := rfl
@[simp] theorem writeLink_roster (n : Nat) (b : Baud) (s : State) : (writeLink n b s).roster = s.roster := rfl
@[simp] theorem writeLink_scanner (n : Nat) (b : Baud) (s : State) : (writeLink n b s).scanner = s.scanner := rfl
@[simp] theorem writeLink_portals (n : Nat) (b : Baud) (s : State) : (writeLink n b s).portals = s.portals := rfl
@[simp] theorem writeLink_overrides (n : Nat) (b : Baud) (s : State) :
    (writeLink n b s).overrides = s.overrides := rfl
@[simp] theorem writeLink_lines (n : Nat) (b : Baud) (s : State) : (writeLink n b s).lines = s.lines := rfl
@[simp] theorem writeLink_link (n : Nat) (b : Baud) (s : State) : (writeLink n b s).link = s.link := rfl
@[simp] theorem writeLink_events (n : Nat) (b : Baud) (s : State) : (writeLink n b s).events = s.events := rfl
@[simp] theorem writeLink_store (n : Nat) (b : Baud) (s : State) : (writeLink n b s).store = s.store := rfl
@[simp] theorem writeLink_pending (n : Nat) (b : Baud) (s : State) : (writeLink n b s).pending = s.pending := rfl

/-! ### withPending -/

@[simp] theorem withPending_powered (q : List Instr) (s : State) : (withPending q s).powered = s.powered := rfl
@[simp] theorem withPending_settings (q : List Instr) (s : State) : (withPending q s).settings = s.settings := rfl
@[simp] theorem withPending_roster (q : List Instr) (s : State) : (withPending q s).roster = s.roster := rfl
@[simp] theorem withPending_scanner (q : List Instr) (s : State) : (withPending q s).scanner = s.scanner := rfl
@[simp] theorem withPending_portals (q : List Instr) (s : State) : (withPending q s).portals = s.portals := rfl
@[simp] theorem withPending_overrides (q : List Instr) (s : State) : (withPending q s).overrides = s.overrides := rfl
@[simp] theorem withPending_lines (q : List Instr) (s : State) : (withPending q s).lines = s.lines := rfl
@[simp] theorem withPending_link (q : List Instr) (s : State) : (withPending q s).link = s.link := rfl
@[simp] theorem withPending_events (q : List Instr) (s : State) : (withPending q s).events = s.events := rfl
@[simp] theorem withPending_store (q : List Instr) (s : State) : (withPending q s).store = s.store := rfl
@[simp] theorem withPending_pending (q : List Instr) (s : State) : (withPending q s).pending = q := rfl

/-! ### writeLevels -/

@[simp] theorem writeLevels_powered (p : Fin 4) (s : State) : (writeLevels p s).powered = s.powered := rfl
@[simp] theorem writeLevels_settings (p : Fin 4) (s : State) : (writeLevels p s).settings = s.settings := rfl
@[simp] theorem writeLevels_scanner (p : Fin 4) (s : State) : (writeLevels p s).scanner = s.scanner := rfl
@[simp] theorem writeLevels_portals (p : Fin 4) (s : State) : (writeLevels p s).portals = s.portals := rfl
@[simp] theorem writeLevels_overrides (p : Fin 4) (s : State) : (writeLevels p s).overrides = s.overrides := rfl
@[simp] theorem writeLevels_lines (p : Fin 4) (s : State) : (writeLevels p s).lines = s.lines := rfl
@[simp] theorem writeLevels_link (p : Fin 4) (s : State) : (writeLevels p s).link = s.link := rfl
@[simp] theorem writeLevels_events (p : Fin 4) (s : State) : (writeLevels p s).events = s.events := rfl
@[simp] theorem writeLevels_store (p : Fin 4) (s : State) : (writeLevels p s).store = s.store := rfl
@[simp] theorem writeLevels_pending (p : Fin 4) (s : State) : (writeLevels p s).pending = s.pending := rfl

/-! ### capacityPass -/

@[simp] theorem capacityPass_powered (p : Fin 4) (s : State) : (capacityPass p s).powered = s.powered := rfl
@[simp] theorem capacityPass_settings (p : Fin 4) (s : State) : (capacityPass p s).settings = s.settings := rfl
@[simp] theorem capacityPass_roster (p : Fin 4) (s : State) : (capacityPass p s).roster = s.roster := rfl
@[simp] theorem capacityPass_scanner (p : Fin 4) (s : State) : (capacityPass p s).scanner = s.scanner := rfl
@[simp] theorem capacityPass_overrides (p : Fin 4) (s : State) : (capacityPass p s).overrides = s.overrides := rfl
@[simp] theorem capacityPass_lines (p : Fin 4) (s : State) : (capacityPass p s).lines = s.lines := rfl
@[simp] theorem capacityPass_link (p : Fin 4) (s : State) : (capacityPass p s).link = s.link := rfl
@[simp] theorem capacityPass_events (p : Fin 4) (s : State) : (capacityPass p s).events = s.events := rfl
@[simp] theorem capacityPass_store (p : Fin 4) (s : State) : (capacityPass p s).store = s.store := rfl
@[simp] theorem capacityPass_pending (p : Fin 4) (s : State) : (capacityPass p s).pending = s.pending := rfl

end Sys2Proof.Machine
end

