-- ==== Sys2Proof/Laws/Frames.lean ====
section
/-! SUPPORT. What each shared operation leaves untouched, one lemma a field. -/

namespace Sys2Proof.Machine

open Sys2Proof

/-! ### reportIf -/

@[simp] theorem reportIf_powered (b : Bool) (e : Event) (s : State) :
    (reportIf b e s).powered = s.powered := by
  unfold reportIf; split <;> rfl
@[simp] theorem reportIf_settings (b : Bool) (e : Event) (s : State) :
    (reportIf b e s).settings = s.settings := by
  unfold reportIf; split <;> rfl
@[simp] theorem reportIf_roster (b : Bool) (e : Event) (s : State) :
    (reportIf b e s).roster = s.roster := by
  unfold reportIf; split <;> rfl
@[simp] theorem reportIf_scanner (b : Bool) (e : Event) (s : State) :
    (reportIf b e s).scanner = s.scanner := by
  unfold reportIf; split <;> rfl
@[simp] theorem reportIf_portals (b : Bool) (e : Event) (s : State) :
    (reportIf b e s).portals = s.portals := by
  unfold reportIf; split <;> rfl
@[simp] theorem reportIf_overrides (b : Bool) (e : Event) (s : State) :
    (reportIf b e s).overrides = s.overrides := by
  unfold reportIf; split <;> rfl
@[simp] theorem reportIf_lines (b : Bool) (e : Event) (s : State) :
    (reportIf b e s).lines = s.lines := by
  unfold reportIf; split <;> rfl
@[simp] theorem reportIf_link (b : Bool) (e : Event) (s : State) :
    (reportIf b e s).link = s.link := by
  unfold reportIf; split <;> rfl
@[simp] theorem reportIf_store (b : Bool) (e : Event) (s : State) :
    (reportIf b e s).store = s.store := by
  unfold reportIf; split <;> rfl
@[simp] theorem reportIf_pending (b : Bool) (e : Event) (s : State) :
    (reportIf b e s).pending = s.pending := by
  unfold reportIf; split <;> rfl

/-! ### markIf -/

@[simp] theorem markIf_powered (b : Bool) (k : Fin 256) (s : State) :
    (markIf b k s).powered = s.powered := by
  unfold markIf; split <;> rfl
@[simp] theorem markIf_settings (b : Bool) (k : Fin 256) (s : State) :
    (markIf b k s).settings = s.settings := by
  unfold markIf; split <;> rfl
@[simp] theorem markIf_scanner (b : Bool) (k : Fin 256) (s : State) :
    (markIf b k s).scanner = s.scanner := by
  unfold markIf; split <;> rfl
@[simp] theorem markIf_portals (b : Bool) (k : Fin 256) (s : State) :
    (markIf b k s).portals = s.portals := by
  unfold markIf; split <;> rfl
@[simp] theorem markIf_overrides (b : Bool) (k : Fin 256) (s : State) :
    (markIf b k s).overrides = s.overrides := by
  unfold markIf; split <;> rfl
@[simp] theorem markIf_lines (b : Bool) (k : Fin 256) (s : State) :
    (markIf b k s).lines = s.lines := by
  unfold markIf; split <;> rfl
@[simp] theorem markIf_link (b : Bool) (k : Fin 256) (s : State) :
    (markIf b k s).link = s.link := by
  unfold markIf; split <;> rfl
@[simp] theorem markIf_events (b : Bool) (k : Fin 256) (s : State) :
    (markIf b k s).events = s.events := by
  unfold markIf; split <;> rfl
@[simp] theorem markIf_store (b : Bool) (k : Fin 256) (s : State) :
    (markIf b k s).store = s.store := by
  unfold markIf; split <;> rfl
@[simp] theorem markIf_pending (b : Bool) (k : Fin 256) (s : State) :
    (markIf b k s).pending = s.pending := by
  unfold markIf; split <;> rfl

/-! ### freeSlot -/

@[simp] theorem freeSlot_powered (k : Fin 256) (s : State) :
    (freeSlot k s).powered = s.powered := rfl
@[simp] theorem freeSlot_settings (k : Fin 256) (s : State) :
    (freeSlot k s).settings = s.settings := rfl
@[simp] theorem freeSlot_scanner (k : Fin 256) (s : State) :
    (freeSlot k s).scanner = s.scanner := rfl
@[simp] theorem freeSlot_portals (k : Fin 256) (s : State) :
    (freeSlot k s).portals = s.portals := rfl
@[simp] theorem freeSlot_overrides (k : Fin 256) (s : State) :
    (freeSlot k s).overrides = s.overrides := rfl
@[simp] theorem freeSlot_lines (k : Fin 256) (s : State) :
    (freeSlot k s).lines = s.lines := rfl
@[simp] theorem freeSlot_link (k : Fin 256) (s : State) :
    (freeSlot k s).link = s.link := rfl
@[simp] theorem freeSlot_events (k : Fin 256) (s : State) :
    (freeSlot k s).events = s.events := rfl
@[simp] theorem freeSlot_store (k : Fin 256) (s : State) :
    (freeSlot k s).store = s.store := rfl
@[simp] theorem freeSlot_pending (k : Fin 256) (s : State) :
    (freeSlot k s).pending = s.pending := rfl

/-! ### hand -/

@[simp] theorem hand_powered (l : Fin 4) (r : Request) (s : State) :
    (hand l r s).powered = s.powered := by
  unfold hand; split <;> rfl
@[simp] theorem hand_settings (l : Fin 4) (r : Request) (s : State) :
    (hand l r s).settings = s.settings := by
  unfold hand; split <;> rfl
@[simp] theorem hand_roster (l : Fin 4) (r : Request) (s : State) :
    (hand l r s).roster = s.roster := by
  unfold hand; split <;> rfl
@[simp] theorem hand_scanner (l : Fin 4) (r : Request) (s : State) :
    (hand l r s).scanner = s.scanner := by
  unfold hand; split <;> rfl
@[simp] theorem hand_portals (l : Fin 4) (r : Request) (s : State) :
    (hand l r s).portals = s.portals := by
  unfold hand; split <;> rfl
@[simp] theorem hand_overrides (l : Fin 4) (r : Request) (s : State) :
    (hand l r s).overrides = s.overrides := by
  unfold hand; split <;> rfl
@[simp] theorem hand_link (l : Fin 4) (r : Request) (s : State) :
    (hand l r s).link = s.link := by
  unfold hand; split <;> rfl
@[simp] theorem hand_events (l : Fin 4) (r : Request) (s : State) :
    (hand l r s).events = s.events := by
  unfold hand; split <;> rfl
@[simp] theorem hand_store (l : Fin 4) (r : Request) (s : State) :
    (hand l r s).store = s.store := by
  unfold hand; split <;> rfl
@[simp] theorem hand_pending (l : Fin 4) (r : Request) (s : State) :
    (hand l r s).pending = s.pending := by
  unfold hand; split <;> rfl

/-! ### handLevel -/

@[simp] theorem handLevel_powered (l : Fin 4) (k : Fin 256) (a : Fin 64) (c : Nat) (s : State) :
    (handLevel l k a c s).powered = s.powered := by
  simp [handLevel]
@[simp] theorem handLevel_settings (l : Fin 4) (k : Fin 256) (a : Fin 64) (c : Nat) (s : State) :
    (handLevel l k a c s).settings = s.settings := by
  simp [handLevel]
@[simp] theorem handLevel_roster (l : Fin 4) (k : Fin 256) (a : Fin 64) (c : Nat) (s : State) :
    (handLevel l k a c s).roster = s.roster := by
  simp [handLevel]
@[simp] theorem handLevel_scanner (l : Fin 4) (k : Fin 256) (a : Fin 64) (c : Nat) (s : State) :
    (handLevel l k a c s).scanner = s.scanner := by
  simp [handLevel]
@[simp] theorem handLevel_portals (l : Fin 4) (k : Fin 256) (a : Fin 64) (c : Nat) (s : State) :
    (handLevel l k a c s).portals = s.portals := by
  simp [handLevel]
@[simp] theorem handLevel_overrides (l : Fin 4) (k : Fin 256) (a : Fin 64) (c : Nat) (s : State) :
    (handLevel l k a c s).overrides = s.overrides := by
  simp [handLevel]
@[simp] theorem handLevel_link (l : Fin 4) (k : Fin 256) (a : Fin 64) (c : Nat) (s : State) :
    (handLevel l k a c s).link = s.link := by
  simp [handLevel]
@[simp] theorem handLevel_events (l : Fin 4) (k : Fin 256) (a : Fin 64) (c : Nat) (s : State) :
    (handLevel l k a c s).events = s.events := by
  simp [handLevel]
@[simp] theorem handLevel_store (l : Fin 4) (k : Fin 256) (a : Fin 64) (c : Nat) (s : State) :
    (handLevel l k a c s).store = s.store := by
  simp [handLevel]
@[simp] theorem handLevel_pending (l : Fin 4) (k : Fin 256) (a : Fin 64) (c : Nat) (s : State) :
    (handLevel l k a c s).pending = s.pending := by
  simp [handLevel]

/-! ### handOptional -/

@[simp] theorem handOptional_powered (l : Fin 4) (k : Fin 256) (a : Fin 64) (c : Option Nat) (s : State) :
    (handOptional l k a c s).powered = s.powered := by
  cases c <;> simp [handOptional]
@[simp] theorem handOptional_settings (l : Fin 4) (k : Fin 256) (a : Fin 64) (c : Option Nat) (s : State) :
    (handOptional l k a c s).settings = s.settings := by
  cases c <;> simp [handOptional]
@[simp] theorem handOptional_roster (l : Fin 4) (k : Fin 256) (a : Fin 64) (c : Option Nat) (s : State) :
    (handOptional l k a c s).roster = s.roster := by
  cases c <;> simp [handOptional]
@[simp] theorem handOptional_scanner (l : Fin 4) (k : Fin 256) (a : Fin 64) (c : Option Nat) (s : State) :
    (handOptional l k a c s).scanner = s.scanner := by
  cases c <;> simp [handOptional]
@[simp] theorem handOptional_portals (l : Fin 4) (k : Fin 256) (a : Fin 64) (c : Option Nat) (s : State) :
    (handOptional l k a c s).portals = s.portals := by
  cases c <;> simp [handOptional]
@[simp] theorem handOptional_overrides (l : Fin 4) (k : Fin 256) (a : Fin 64) (c : Option Nat) (s : State) :
    (handOptional l k a c s).overrides = s.overrides := by
  cases c <;> simp [handOptional]
@[simp] theorem handOptional_link (l : Fin 4) (k : Fin 256) (a : Fin 64) (c : Option Nat) (s : State) :
    (handOptional l k a c s).link = s.link := by
  cases c <;> simp [handOptional]
@[simp] theorem handOptional_events (l : Fin 4) (k : Fin 256) (a : Fin 64) (c : Option Nat) (s : State) :
    (handOptional l k a c s).events = s.events := by
  cases c <;> simp [handOptional]
@[simp] theorem handOptional_store (l : Fin 4) (k : Fin 256) (a : Fin 64) (c : Option Nat) (s : State) :
    (handOptional l k a c s).store = s.store := by
  cases c <;> simp [handOptional]
@[simp] theorem handOptional_pending (l : Fin 4) (k : Fin 256) (a : Fin 64) (c : Option Nat) (s : State) :
    (handOptional l k a c s).pending = s.pending := by
  cases c <;> simp [handOptional]

/-! ### startPoll -/

@[simp] theorem startPoll_powered (l : Fin 4) (s : State) :
    (startPoll l s).powered = s.powered := by
  unfold startPoll; split <;> rfl
@[simp] theorem startPoll_settings (l : Fin 4) (s : State) :
    (startPoll l s).settings = s.settings := by
  unfold startPoll; split <;> rfl
@[simp] theorem startPoll_roster (l : Fin 4) (s : State) :
    (startPoll l s).roster = s.roster := by
  unfold startPoll; split <;> rfl
@[simp] theorem startPoll_scanner (l : Fin 4) (s : State) :
    (startPoll l s).scanner = s.scanner := by
  unfold startPoll; split <;> rfl
@[simp] theorem startPoll_portals (l : Fin 4) (s : State) :
    (startPoll l s).portals = s.portals := by
  unfold startPoll; split <;> rfl
@[simp] theorem startPoll_overrides (l : Fin 4) (s : State) :
    (startPoll l s).overrides = s.overrides := by
  unfold startPoll; split <;> rfl
@[simp] theorem startPoll_link (l : Fin 4) (s : State) :
    (startPoll l s).link = s.link := by
  unfold startPoll; split <;> rfl
@[simp] theorem startPoll_events (l : Fin 4) (s : State) :
    (startPoll l s).events = s.events := by
  unfold startPoll; split <;> rfl
@[simp] theorem startPoll_store (l : Fin 4) (s : State) :
    (startPoll l s).store = s.store := by
  unfold startPoll; split <;> rfl
@[simp] theorem startPoll_pending (l : Fin 4) (s : State) :
    (startPoll l s).pending = s.pending := by
  unfold startPoll; split <;> rfl

/-! ### consider -/

@[simp] theorem consider_powered (l : Fin 4) (s : State) :
    (consider l s).powered = s.powered := by
  unfold consider; split <;> [split <;> [skip; split]; skip] <;> simp
@[simp] theorem consider_settings (l : Fin 4) (s : State) :
    (consider l s).settings = s.settings := by
  unfold consider; split <;> [split <;> [skip; split]; skip] <;> simp
@[simp] theorem consider_roster (l : Fin 4) (s : State) :
    (consider l s).roster = s.roster := by
  unfold consider; split <;> [split <;> [skip; split]; skip] <;> simp
@[simp] theorem consider_scanner (l : Fin 4) (s : State) :
    (consider l s).scanner = s.scanner := by
  unfold consider; split <;> [split <;> [skip; split]; skip] <;> simp
@[simp] theorem consider_portals (l : Fin 4) (s : State) :
    (consider l s).portals = s.portals := by
  unfold consider; split <;> [split <;> [skip; split]; skip] <;> simp
@[simp] theorem consider_overrides (l : Fin 4) (s : State) :
    (consider l s).overrides = s.overrides := by
  unfold consider; split <;> [split <;> [skip; split]; skip] <;> simp
@[simp] theorem consider_link (l : Fin 4) (s : State) :
    (consider l s).link = s.link := by
  unfold consider; split <;> [split <;> [skip; split]; skip] <;> simp
@[simp] theorem consider_events (l : Fin 4) (s : State) :
    (consider l s).events = s.events := by
  unfold consider; split <;> [split <;> [skip; split]; skip] <;> simp
@[simp] theorem consider_store (l : Fin 4) (s : State) :
    (consider l s).store = s.store := by
  unfold consider; split <;> [split <;> [skip; split]; skip] <;> simp
@[simp] theorem consider_pending (l : Fin 4) (s : State) :
    (consider l s).pending = s.pending := by
  unfold consider; split <;> [split <;> [skip; split]; skip] <;> simp

/-! ### considerAll -/

@[simp] theorem considerAll_powered (s : State) :
    (considerAll s).powered = s.powered := by
  simp [considerAll]
@[simp] theorem considerAll_settings (s : State) :
    (considerAll s).settings = s.settings := by
  simp [considerAll]
@[simp] theorem considerAll_roster (s : State) :
    (considerAll s).roster = s.roster := by
  simp [considerAll]
@[simp] theorem considerAll_scanner (s : State) :
    (considerAll s).scanner = s.scanner := by
  simp [considerAll]
@[simp] theorem considerAll_portals (s : State) :
    (considerAll s).portals = s.portals := by
  simp [considerAll]
@[simp] theorem considerAll_overrides (s : State) :
    (considerAll s).overrides = s.overrides := by
  simp [considerAll]
@[simp] theorem considerAll_link (s : State) :
    (considerAll s).link = s.link := by
  simp [considerAll]
@[simp] theorem considerAll_events (s : State) :
    (considerAll s).events = s.events := by
  simp [considerAll]
@[simp] theorem considerAll_store (s : State) :
    (considerAll s).store = s.store := by
  simp [considerAll]
@[simp] theorem considerAll_pending (s : State) :
    (considerAll s).pending = s.pending := by
  simp [considerAll]

/-! ### releaseEnds -/

@[simp] theorem releaseEnds_powered (l : Fin 4) (k : Fin 256) (a : Fin 64) (s : State) :
    (releaseEnds l k a s).powered = s.powered := by
  simp only [releaseEnds]; split <;> simp
@[simp] theorem releaseEnds_settings (l : Fin 4) (k : Fin 256) (a : Fin 64) (s : State) :
    (releaseEnds l k a s).settings = s.settings := by
  simp only [releaseEnds]; split <;> simp
@[simp] theorem releaseEnds_scanner (l : Fin 4) (k : Fin 256) (a : Fin 64) (s : State) :
    (releaseEnds l k a s).scanner = s.scanner := by
  simp only [releaseEnds]; split <;> simp
@[simp] theorem releaseEnds_portals (l : Fin 4) (k : Fin 256) (a : Fin 64) (s : State) :
    (releaseEnds l k a s).portals = s.portals := by
  simp only [releaseEnds]; split <;> simp
@[simp] theorem releaseEnds_overrides (l : Fin 4) (k : Fin 256) (a : Fin 64) (s : State) :
    (releaseEnds l k a s).overrides = s.overrides := by
  simp only [releaseEnds]; split <;> simp
@[simp] theorem releaseEnds_lines (l : Fin 4) (k : Fin 256) (a : Fin 64) (s : State) :
    (releaseEnds l k a s).lines = s.lines := by
  simp only [releaseEnds]; split <;> simp
@[simp] theorem releaseEnds_link (l : Fin 4) (k : Fin 256) (a : Fin 64) (s : State) :
    (releaseEnds l k a s).link = s.link := by
  simp only [releaseEnds]; split <;> simp
@[simp] theorem releaseEnds_events (l : Fin 4) (k : Fin 256) (a : Fin 64) (s : State) :
    (releaseEnds l k a s).events = s.events := by
  simp only [releaseEnds]; split <;> simp
@[simp] theorem releaseEnds_store (l : Fin 4) (k : Fin 256) (a : Fin 64) (s : State) :
    (releaseEnds l k a s).store = s.store := by
  simp only [releaseEnds]; split <;> simp
@[simp] theorem releaseEnds_pending (l : Fin 4) (k : Fin 256) (a : Fin 64) (s : State) :
    (releaseEnds l k a s).pending = s.pending := by
  simp only [releaseEnds]; split <;> simp

/-! ### discardReleases -/

@[simp] theorem discardReleases_powered (l : Fin 4) (q : List Request) (s : State) :
    (discardReleases l q s).powered = s.powered := by
  induction q generalizing s with
  | nil => rfl
  | cons r q ih =>
    simp only [discardReleases, List.foldl_cons] at ih ⊢
    cases r.kind <;> simp [ih]
@[simp] theorem discardReleases_settings (l : Fin 4) (q : List Request) (s : State) :
    (discardReleases l q s).settings = s.settings := by
  induction q generalizing s with
  | nil => rfl
  | cons r q ih =>
    simp only [discardReleases, List.foldl_cons] at ih ⊢
    cases r.kind <;> simp [ih]
@[simp] theorem discardReleases_scanner (l : Fin 4) (q : List Request) (s : State) :
    (discardReleases l q s).scanner = s.scanner := by
  induction q generalizing s with
  | nil => rfl
  | cons r q ih =>
    simp only [discardReleases, List.foldl_cons] at ih ⊢
    cases r.kind <;> simp [ih]
@[simp] theorem discardReleases_portals (l : Fin 4) (q : List Request) (s : State) :
    (discardReleases l q s).portals = s.portals := by
  induction q generalizing s with
  | nil => rfl
  | cons r q ih =>
    simp only [discardReleases, List.foldl_cons] at ih ⊢
    cases r.kind <;> simp [ih]
@[simp] theorem discardReleases_overrides (l : Fin 4) (q : List Request) (s : State) :
    (discardReleases l q s).overrides = s.overrides := by
  induction q generalizing s with
  | nil => rfl
  | cons r q ih =>
    simp only [discardReleases, List.foldl_cons] at ih ⊢
    cases r.kind <;> simp [ih]
@[simp] theorem discardReleases_lines (l : Fin 4) (q : List Request) (s : State) :
    (discardReleases l q s).lines = s.lines := by
  induction q generalizing s with
  | nil => rfl
  | cons r q ih =>
    simp only [discardReleases, List.foldl_cons] at ih ⊢
    cases r.kind <;> simp [ih]
@[simp] theorem discardReleases_link (l : Fin 4) (q : List Request) (s : State) :
    (discardReleases l q s).link = s.link := by
  induction q generalizing s with
  | nil => rfl
  | cons r q ih =>
    simp only [discardReleases, List.foldl_cons] at ih ⊢
    cases r.kind <;> simp [ih]
@[simp] theorem discardReleases_events (l : Fin 4) (q : List Request) (s : State) :
    (discardReleases l q s).events = s.events := by
  induction q generalizing s with
  | nil => rfl
  | cons r q ih =>
    simp only [discardReleases, List.foldl_cons] at ih ⊢
    cases r.kind <;> simp [ih]
@[simp] theorem discardReleases_store (l : Fin 4) (q : List Request) (s : State) :
    (discardReleases l q s).store = s.store := by
  induction q generalizing s with
  | nil => rfl
  | cons r q ih =>
    simp only [discardReleases, List.foldl_cons] at ih ⊢
    cases r.kind <;> simp [ih]
@[simp] theorem discardReleases_pending (l : Fin 4) (q : List Request) (s : State) :
    (discardReleases l q s).pending = s.pending := by
  induction q generalizing s with
  | nil => rfl
  | cons r q ih =>
    simp only [discardReleases, List.foldl_cons] at ih ⊢
    cases r.kind <;> simp [ih]

/-! ### applyFlags -/

@[simp] theorem applyFlags_powered (l : Fin 4) (k : Fin 256) (a : Fin 64) (f : DriverFlags) (v : Option Nat) (s : State) :
    (applyFlags l k a f v s).powered = s.powered := by
  simp [applyFlags]
@[simp] theorem applyFlags_settings (l : Fin 4) (k : Fin 256) (a : Fin 64) (f : DriverFlags) (v : Option Nat) (s : State) :
    (applyFlags l k a f v s).settings = s.settings := by
  simp [applyFlags]
@[simp] theorem applyFlags_scanner (l : Fin 4) (k : Fin 256) (a : Fin 64) (f : DriverFlags) (v : Option Nat) (s : State) :
    (applyFlags l k a f v s).scanner = s.scanner := by
  simp [applyFlags]
@[simp] theorem applyFlags_portals (l : Fin 4) (k : Fin 256) (a : Fin 64) (f : DriverFlags) (v : Option Nat) (s : State) :
    (applyFlags l k a f v s).portals = s.portals := by
  simp [applyFlags]
@[simp] theorem applyFlags_overrides (l : Fin 4) (k : Fin 256) (a : Fin 64) (f : DriverFlags) (v : Option Nat) (s : State) :
    (applyFlags l k a f v s).overrides = s.overrides := by
  simp [applyFlags]
@[simp] theorem applyFlags_link (l : Fin 4) (k : Fin 256) (a : Fin 64) (f : DriverFlags) (v : Option Nat) (s : State) :
    (applyFlags l k a f v s).link = s.link := by
  simp [applyFlags]
@[simp] theorem applyFlags_store (l : Fin 4) (k : Fin 256) (a : Fin 64) (f : DriverFlags) (v : Option Nat) (s : State) :
    (applyFlags l k a f v s).store = s.store := by
  simp [applyFlags]
@[simp] theorem applyFlags_pending (l : Fin 4) (k : Fin 256) (a : Fin 64) (f : DriverFlags) (v : Option Nat) (s : State) :
    (applyFlags l k a f v s).pending = s.pending := by
  simp [applyFlags]

/-! ### applyReply -/

@[simp] theorem applyReply_powered (kd : ReportKind) (l : Fin 4) (k : Fin 256) (a : Fin 64) (f : DriverFlags) (v : Nat) (s : State) :
    (applyReply kd l k a f v s).powered = s.powered := by
  unfold applyReply; split <;> [cases kd; skip] <;> simp
@[simp] theorem applyReply_settings (kd : ReportKind) (l : Fin 4) (k : Fin 256) (a : Fin 64) (f : DriverFlags) (v : Nat) (s : State) :
    (applyReply kd l k a f v s).settings = s.settings := by
  unfold applyReply; split <;> [cases kd; skip] <;> simp
@[simp] theorem applyReply_scanner (kd : ReportKind) (l : Fin 4) (k : Fin 256) (a : Fin 64) (f : DriverFlags) (v : Nat) (s : State) :
    (applyReply kd l k a f v s).scanner = s.scanner := by
  unfold applyReply; split <;> [cases kd; skip] <;> simp
@[simp] theorem applyReply_portals (kd : ReportKind) (l : Fin 4) (k : Fin 256) (a : Fin 64) (f : DriverFlags) (v : Nat) (s : State) :
    (applyReply kd l k a f v s).portals = s.portals := by
  unfold applyReply; split <;> [cases kd; skip] <;> simp
@[simp] theorem applyReply_overrides (kd : ReportKind) (l : Fin 4) (k : Fin 256) (a : Fin 64) (f : DriverFlags) (v : Nat) (s : State) :
    (applyReply kd l k a f v s).overrides = s.overrides := by
  unfold applyReply; split <;> [cases kd; skip] <;> simp
@[simp] theorem applyReply_link (kd : ReportKind) (l : Fin 4) (k : Fin 256) (a : Fin 64) (f : DriverFlags) (v : Nat) (s : State) :
    (applyReply kd l k a f v s).link = s.link := by
  unfold applyReply; split <;> [cases kd; skip] <;> simp
@[simp] theorem applyReply_store (kd : ReportKind) (l : Fin 4) (k : Fin 256) (a : Fin 64) (f : DriverFlags) (v : Nat) (s : State) :
    (applyReply kd l k a f v s).store = s.store := by
  unfold applyReply; split <;> [cases kd; skip] <;> simp
@[simp] theorem applyReply_pending (kd : ReportKind) (l : Fin 4) (k : Fin 256) (a : Fin 64) (f : DriverFlags) (v : Nat) (s : State) :
    (applyReply kd l k a f v s).pending = s.pending := by
  unfold applyReply; split <;> [cases kd; skip] <;> simp

/-! ### applyMiss -/

@[simp] theorem applyMiss_powered (l : Fin 4) (k : Fin 256) (a : Fin 64) (s : State) :
    (applyMiss l k a s).powered = s.powered := by
  simp only [applyMiss]; repeat' split
  all_goals simp
@[simp] theorem applyMiss_settings (l : Fin 4) (k : Fin 256) (a : Fin 64) (s : State) :
    (applyMiss l k a s).settings = s.settings := by
  simp only [applyMiss]; repeat' split
  all_goals simp
@[simp] theorem applyMiss_scanner (l : Fin 4) (k : Fin 256) (a : Fin 64) (s : State) :
    (applyMiss l k a s).scanner = s.scanner := by
  simp only [applyMiss]; repeat' split
  all_goals simp
@[simp] theorem applyMiss_portals (l : Fin 4) (k : Fin 256) (a : Fin 64) (s : State) :
    (applyMiss l k a s).portals = s.portals := by
  simp only [applyMiss]; repeat' split
  all_goals simp
@[simp] theorem applyMiss_overrides (l : Fin 4) (k : Fin 256) (a : Fin 64) (s : State) :
    (applyMiss l k a s).overrides = s.overrides := by
  simp only [applyMiss]; repeat' split
  all_goals simp
@[simp] theorem applyMiss_lines (l : Fin 4) (k : Fin 256) (a : Fin 64) (s : State) :
    (applyMiss l k a s).lines = s.lines := by
  simp only [applyMiss]; repeat' split
  all_goals simp
@[simp] theorem applyMiss_link (l : Fin 4) (k : Fin 256) (a : Fin 64) (s : State) :
    (applyMiss l k a s).link = s.link := by
  simp only [applyMiss]; repeat' split
  all_goals simp
@[simp] theorem applyMiss_store (l : Fin 4) (k : Fin 256) (a : Fin 64) (s : State) :
    (applyMiss l k a s).store = s.store := by
  simp only [applyMiss]; repeat' split
  all_goals simp
@[simp] theorem applyMiss_pending (l : Fin 4) (k : Fin 256) (a : Fin 64) (s : State) :
    (applyMiss l k a s).pending = s.pending := by
  simp only [applyMiss]; repeat' split
  all_goals simp

/-! ### outputPass -/

@[simp] theorem outputPass_powered (p : Fin 4) (s : State) :
    (outputPass p s).powered = s.powered := by
  simp [outputPass]
@[simp] theorem outputPass_settings (p : Fin 4) (s : State) :
    (outputPass p s).settings = s.settings := by
  simp [outputPass]
@[simp] theorem outputPass_roster (p : Fin 4) (s : State) :
    (outputPass p s).roster = s.roster := by
  simp [outputPass]
@[simp] theorem outputPass_scanner (p : Fin 4) (s : State) :
    (outputPass p s).scanner = s.scanner := by
  simp [outputPass]
@[simp] theorem outputPass_overrides (p : Fin 4) (s : State) :
    (outputPass p s).overrides = s.overrides := by
  simp [outputPass]
@[simp] theorem outputPass_lines (p : Fin 4) (s : State) :
    (outputPass p s).lines = s.lines := by
  simp [outputPass]
@[simp] theorem outputPass_link (p : Fin 4) (s : State) :
    (outputPass p s).link = s.link := by
  simp [outputPass]
@[simp] theorem outputPass_store (p : Fin 4) (s : State) :
    (outputPass p s).store = s.store := by
  simp [outputPass]
@[simp] theorem outputPass_pending (p : Fin 4) (s : State) :
    (outputPass p s).pending = s.pending := by
  simp [outputPass]

/-! ### handRequests -/

/-- A fold of steps that each leave what `g` reads leaves it too. -/
theorem foldl_keeps {α β γ : Type} (g : β → γ) (step : β → α → β) (h : ∀ b a, g (step b a) = g b) (l : List α) (b : β) :
    g (l.foldl step b) = g b := by
  induction l generalizing b with
  | nil => rfl
  | cons a l ih => rw [List.foldl_cons, ih, h]

@[simp] theorem handRequests_powered (p : Fin 4) (s : State) :
    (handRequests p s).powered = s.powered := by
  refine foldl_keeps (·.powered) _ (fun acc x => ?_) _ s
  dsimp only; split <;> simp
@[simp] theorem handRequests_settings (p : Fin 4) (s : State) :
    (handRequests p s).settings = s.settings := by
  refine foldl_keeps (·.settings) _ (fun acc x => ?_) _ s
  dsimp only; split <;> simp
@[simp] theorem handRequests_roster (p : Fin 4) (s : State) :
    (handRequests p s).roster = s.roster := by
  refine foldl_keeps (·.roster) _ (fun acc x => ?_) _ s
  dsimp only; split <;> simp
@[simp] theorem handRequests_scanner (p : Fin 4) (s : State) :
    (handRequests p s).scanner = s.scanner := by
  refine foldl_keeps (·.scanner) _ (fun acc x => ?_) _ s
  dsimp only; split <;> simp
@[simp] theorem handRequests_portals (p : Fin 4) (s : State) :
    (handRequests p s).portals = s.portals := by
  refine foldl_keeps (·.portals) _ (fun acc x => ?_) _ s
  dsimp only; split <;> simp
@[simp] theorem handRequests_overrides (p : Fin 4) (s : State) :
    (handRequests p s).overrides = s.overrides := by
  refine foldl_keeps (·.overrides) _ (fun acc x => ?_) _ s
  dsimp only; split <;> simp
@[simp] theorem handRequests_link (p : Fin 4) (s : State) :
    (handRequests p s).link = s.link := by
  refine foldl_keeps (·.link) _ (fun acc x => ?_) _ s
  dsimp only; split <;> simp
@[simp] theorem handRequests_events (p : Fin 4) (s : State) :
    (handRequests p s).events = s.events := by
  refine foldl_keeps (·.events) _ (fun acc x => ?_) _ s
  dsimp only; split <;> simp
@[simp] theorem handRequests_store (p : Fin 4) (s : State) :
    (handRequests p s).store = s.store := by
  refine foldl_keeps (·.store) _ (fun acc x => ?_) _ s
  dsimp only; split <;> simp
@[simp] theorem handRequests_pending (p : Fin 4) (s : State) :
    (handRequests p s).pending = s.pending := by
  refine foldl_keeps (·.pending) _ (fun acc x => ?_) _ s
  dsimp only; split <;> simp

/-! ### levelPass -/

@[simp] theorem levelPass_powered (p : Fin 4) (s : State) :
    (levelPass p s).powered = s.powered := by
  simp [levelPass]
@[simp] theorem levelPass_settings (p : Fin 4) (s : State) :
    (levelPass p s).settings = s.settings := by
  simp [levelPass]
@[simp] theorem levelPass_scanner (p : Fin 4) (s : State) :
    (levelPass p s).scanner = s.scanner := by
  simp [levelPass]
@[simp] theorem levelPass_portals (p : Fin 4) (s : State) :
    (levelPass p s).portals = s.portals := by
  simp [levelPass]
@[simp] theorem levelPass_overrides (p : Fin 4) (s : State) :
    (levelPass p s).overrides = s.overrides := by
  simp [levelPass]
@[simp] theorem levelPass_link (p : Fin 4) (s : State) :
    (levelPass p s).link = s.link := by
  simp [levelPass]
@[simp] theorem levelPass_events (p : Fin 4) (s : State) :
    (levelPass p s).events = s.events := by
  simp [levelPass]
@[simp] theorem levelPass_store (p : Fin 4) (s : State) :
    (levelPass p s).store = s.store := by
  simp [levelPass]
@[simp] theorem levelPass_pending (p : Fin 4) (s : State) :
    (levelPass p s).pending = s.pending := by
  simp [levelPass]

/-! ### recompute -/

@[simp] theorem recompute_powered (p : Fin 4) (s : State) :
    (recompute p s).powered = s.powered := by
  simp only [recompute]; split <;> simp
@[simp] theorem recompute_settings (p : Fin 4) (s : State) :
    (recompute p s).settings = s.settings := by
  simp only [recompute]; split <;> simp
@[simp] theorem recompute_scanner (p : Fin 4) (s : State) :
    (recompute p s).scanner = s.scanner := by
  simp only [recompute]; split <;> simp
@[simp] theorem recompute_overrides (p : Fin 4) (s : State) :
    (recompute p s).overrides = s.overrides := by
  simp only [recompute]; split <;> simp
@[simp] theorem recompute_link (p : Fin 4) (s : State) :
    (recompute p s).link = s.link := by
  simp only [recompute]; split <;> simp
@[simp] theorem recompute_store (p : Fin 4) (s : State) :
    (recompute p s).store = s.store := by
  simp only [recompute]; split <;> simp
@[simp] theorem recompute_pending (p : Fin 4) (s : State) :
    (recompute p s).pending = s.pending := by
  simp only [recompute]; split <;> simp

/-! ### update -/

@[simp] theorem update_powered (p : Fin 4) (s : State) :
    (update p s).powered = s.powered := by
  simp [update]
@[simp] theorem update_settings (p : Fin 4) (s : State) :
    (update p s).settings = s.settings := by
  simp [update]
@[simp] theorem update_scanner (p : Fin 4) (s : State) :
    (update p s).scanner = s.scanner := by
  simp [update]
@[simp] theorem update_overrides (p : Fin 4) (s : State) :
    (update p s).overrides = s.overrides := by
  simp [update]
@[simp] theorem update_link (p : Fin 4) (s : State) :
    (update p s).link = s.link := by
  simp [update]
@[simp] theorem update_store (p : Fin 4) (s : State) :
    (update p s).store = s.store := by
  simp [update]
@[simp] theorem update_pending (p : Fin 4) (s : State) :
    (update p s).pending = s.pending := by
  simp [update]

/-! ### settlePortal -/

@[simp] theorem settlePortal_powered (b a : State) (p : Fin 4) (s : State) :
    (settlePortal b a p s).powered = s.powered := by
  simp only [settlePortal]; split <;> simp
@[simp] theorem settlePortal_settings (b a : State) (p : Fin 4) (s : State) :
    (settlePortal b a p s).settings = s.settings := by
  simp only [settlePortal]; split <;> simp
@[simp] theorem settlePortal_scanner (b a : State) (p : Fin 4) (s : State) :
    (settlePortal b a p s).scanner = s.scanner := by
  simp only [settlePortal]; split <;> simp
@[simp] theorem settlePortal_overrides (b a : State) (p : Fin 4) (s : State) :
    (settlePortal b a p s).overrides = s.overrides := by
  simp only [settlePortal]; split <;> simp
@[simp] theorem settlePortal_link (b a : State) (p : Fin 4) (s : State) :
    (settlePortal b a p s).link = s.link := by
  simp only [settlePortal]; split <;> simp
@[simp] theorem settlePortal_store (b a : State) (p : Fin 4) (s : State) :
    (settlePortal b a p s).store = s.store := by
  simp only [settlePortal]; split <;> simp
@[simp] theorem settlePortal_pending (b a : State) (p : Fin 4) (s : State) :
    (settlePortal b a p s).pending = s.pending := by
  simp only [settlePortal]; split <;> simp

/-! ### settleConditions -/

@[simp] theorem settleConditions_powered (b a : State) :
    (settleConditions b a).powered = a.powered := by
  simp [settleConditions]
@[simp] theorem settleConditions_settings (b a : State) :
    (settleConditions b a).settings = a.settings := by
  simp [settleConditions]
@[simp] theorem settleConditions_scanner (b a : State) :
    (settleConditions b a).scanner = a.scanner := by
  simp [settleConditions]
@[simp] theorem settleConditions_overrides (b a : State) :
    (settleConditions b a).overrides = a.overrides := by
  simp [settleConditions]
@[simp] theorem settleConditions_link (b a : State) :
    (settleConditions b a).link = a.link := by
  simp [settleConditions]
@[simp] theorem settleConditions_store (b a : State) :
    (settleConditions b a).store = a.store := by
  simp [settleConditions]
@[simp] theorem settleConditions_pending (b a : State) :
    (settleConditions b a).pending = a.pending := by
  simp [settleConditions]

/-! ### recomputeLimited -/

@[simp] theorem recomputeLimited_powered (s : State) :
    (recomputeLimited s).powered = s.powered := by
  refine foldl_keeps (·.powered) _ (fun acc x => ?_) _ s
  split <;> simp
@[simp] theorem recomputeLimited_settings (s : State) :
    (recomputeLimited s).settings = s.settings := by
  refine foldl_keeps (·.settings) _ (fun acc x => ?_) _ s
  split <;> simp
@[simp] theorem recomputeLimited_scanner (s : State) :
    (recomputeLimited s).scanner = s.scanner := by
  refine foldl_keeps (·.scanner) _ (fun acc x => ?_) _ s
  split <;> simp
@[simp] theorem recomputeLimited_overrides (s : State) :
    (recomputeLimited s).overrides = s.overrides := by
  refine foldl_keeps (·.overrides) _ (fun acc x => ?_) _ s
  split <;> simp
@[simp] theorem recomputeLimited_link (s : State) :
    (recomputeLimited s).link = s.link := by
  refine foldl_keeps (·.link) _ (fun acc x => ?_) _ s
  split <;> simp
@[simp] theorem recomputeLimited_store (s : State) :
    (recomputeLimited s).store = s.store := by
  refine foldl_keeps (·.store) _ (fun acc x => ?_) _ s
  split <;> simp
@[simp] theorem recomputeLimited_pending (s : State) :
    (recomputeLimited s).pending = s.pending := by
  refine foldl_keeps (·.pending) _ (fun acc x => ?_) _ s
  split <;> simp

/-! ### discardInFlight -/

@[simp] theorem discardInFlight_powered (l : Fin 4) (t : Transaction) (s : State) :
    (discardInFlight l t s).powered = s.powered := by
  unfold discardInFlight; split <;> simp
@[simp] theorem discardInFlight_settings (l : Fin 4) (t : Transaction) (s : State) :
    (discardInFlight l t s).settings = s.settings := by
  unfold discardInFlight; split <;> simp
@[simp] theorem discardInFlight_scanner (l : Fin 4) (t : Transaction) (s : State) :
    (discardInFlight l t s).scanner = s.scanner := by
  unfold discardInFlight; split <;> simp
@[simp] theorem discardInFlight_portals (l : Fin 4) (t : Transaction) (s : State) :
    (discardInFlight l t s).portals = s.portals := by
  unfold discardInFlight; split <;> simp
@[simp] theorem discardInFlight_overrides (l : Fin 4) (t : Transaction) (s : State) :
    (discardInFlight l t s).overrides = s.overrides := by
  unfold discardInFlight; split <;> simp
@[simp] theorem discardInFlight_lines (l : Fin 4) (t : Transaction) (s : State) :
    (discardInFlight l t s).lines = s.lines := by
  unfold discardInFlight; split <;> simp
@[simp] theorem discardInFlight_link (l : Fin 4) (t : Transaction) (s : State) :
    (discardInFlight l t s).link = s.link := by
  unfold discardInFlight; split <;> simp
@[simp] theorem discardInFlight_events (l : Fin 4) (t : Transaction) (s : State) :
    (discardInFlight l t s).events = s.events := by
  unfold discardInFlight; split <;> simp
@[simp] theorem discardInFlight_store (l : Fin 4) (t : Transaction) (s : State) :
    (discardInFlight l t s).store = s.store := by
  unfold discardInFlight; split <;> simp
@[simp] theorem discardInFlight_pending (l : Fin 4) (t : Transaction) (s : State) :
    (discardInFlight l t s).pending = s.pending := by
  unfold discardInFlight; split <;> simp

/-! ### disableLine -/

@[simp] theorem disableLine_powered (l : Fin 4) (s : State) :
    (disableLine l s).powered = s.powered := by
  simp only [disableLine]; split <;> [split; skip] <;> simp
@[simp] theorem disableLine_settings (l : Fin 4) (s : State) :
    (disableLine l s).settings = s.settings := by
  simp only [disableLine]; split <;> [split; skip] <;> simp
@[simp] theorem disableLine_scanner (l : Fin 4) (s : State) :
    (disableLine l s).scanner = s.scanner := by
  simp only [disableLine]; split <;> [split; skip] <;> simp
@[simp] theorem disableLine_portals (l : Fin 4) (s : State) :
    (disableLine l s).portals = s.portals := by
  simp only [disableLine]; split <;> [split; skip] <;> simp
@[simp] theorem disableLine_overrides (l : Fin 4) (s : State) :
    (disableLine l s).overrides = s.overrides := by
  simp only [disableLine]; split <;> [split; skip] <;> simp
@[simp] theorem disableLine_link (l : Fin 4) (s : State) :
    (disableLine l s).link = s.link := by
  simp only [disableLine]; split <;> [split; skip] <;> simp
@[simp] theorem disableLine_events (l : Fin 4) (s : State) :
    (disableLine l s).events = s.events := by
  simp only [disableLine]; split <;> [split; skip] <;> simp
@[simp] theorem disableLine_store (l : Fin 4) (s : State) :
    (disableLine l s).store = s.store := by
  simp only [disableLine]; split <;> [split; skip] <;> simp
@[simp] theorem disableLine_pending (l : Fin 4) (s : State) :
    (disableLine l s).pending = s.pending := by
  simp only [disableLine]; split <;> [split; skip] <;> simp

/-! ### putBack -/

@[simp] theorem putBack_powered (l : Fin 4) (t : Transaction) (s : State) :
    (putBack l t s).powered = s.powered := by
  unfold putBack; repeat' split
  all_goals rfl
@[simp] theorem putBack_settings (l : Fin 4) (t : Transaction) (s : State) :
    (putBack l t s).settings = s.settings := by
  unfold putBack; repeat' split
  all_goals rfl
@[simp] theorem putBack_roster (l : Fin 4) (t : Transaction) (s : State) :
    (putBack l t s).roster = s.roster := by
  unfold putBack; repeat' split
  all_goals rfl
@[simp] theorem putBack_scanner (l : Fin 4) (t : Transaction) (s : State) :
    (putBack l t s).scanner = s.scanner := by
  unfold putBack; repeat' split
  all_goals rfl
@[simp] theorem putBack_portals (l : Fin 4) (t : Transaction) (s : State) :
    (putBack l t s).portals = s.portals := by
  unfold putBack; repeat' split
  all_goals rfl
@[simp] theorem putBack_overrides (l : Fin 4) (t : Transaction) (s : State) :
    (putBack l t s).overrides = s.overrides := by
  unfold putBack; repeat' split
  all_goals rfl
@[simp] theorem putBack_link (l : Fin 4) (t : Transaction) (s : State) :
    (putBack l t s).link = s.link := by
  unfold putBack; repeat' split
  all_goals rfl
@[simp] theorem putBack_events (l : Fin 4) (t : Transaction) (s : State) :
    (putBack l t s).events = s.events := by
  unfold putBack; repeat' split
  all_goals rfl
@[simp] theorem putBack_store (l : Fin 4) (t : Transaction) (s : State) :
    (putBack l t s).store = s.store := by
  unfold putBack; repeat' split
  all_goals rfl
@[simp] theorem putBack_pending (l : Fin 4) (t : Transaction) (s : State) :
    (putBack l t s).pending = s.pending := by
  unfold putBack; repeat' split
  all_goals rfl

/-! ### faultLine -/

@[simp] theorem faultLine_powered (l : Fin 4) (t : Transaction) (s : State) :
    (faultLine l t s).powered = s.powered := by
  simp [faultLine]
@[simp] theorem faultLine_settings (l : Fin 4) (t : Transaction) (s : State) :
    (faultLine l t s).settings = s.settings := by
  simp [faultLine]
@[simp] theorem faultLine_scanner (l : Fin 4) (t : Transaction) (s : State) :
    (faultLine l t s).scanner = s.scanner := by
  simp [faultLine]
@[simp] theorem faultLine_portals (l : Fin 4) (t : Transaction) (s : State) :
    (faultLine l t s).portals = s.portals := by
  simp [faultLine]
@[simp] theorem faultLine_overrides (l : Fin 4) (t : Transaction) (s : State) :
    (faultLine l t s).overrides = s.overrides := by
  simp [faultLine]
@[simp] theorem faultLine_link (l : Fin 4) (t : Transaction) (s : State) :
    (faultLine l t s).link = s.link := by
  simp [faultLine]
@[simp] theorem faultLine_store (l : Fin 4) (t : Transaction) (s : State) :
    (faultLine l t s).store = s.store := by
  simp [faultLine]
@[simp] theorem faultLine_pending (l : Fin 4) (t : Transaction) (s : State) :
    (faultLine l t s).pending = s.pending := by
  simp [faultLine]

/-! ### contend -/

@[simp] theorem contend_powered (l : Fin 4) (t : Transaction) (s : State) :
    (contend l t s).powered = s.powered := by
  simp only [contend]; repeat' split
  all_goals simp
@[simp] theorem contend_settings (l : Fin 4) (t : Transaction) (s : State) :
    (contend l t s).settings = s.settings := by
  simp only [contend]; repeat' split
  all_goals simp
@[simp] theorem contend_scanner (l : Fin 4) (t : Transaction) (s : State) :
    (contend l t s).scanner = s.scanner := by
  simp only [contend]; repeat' split
  all_goals simp
@[simp] theorem contend_portals (l : Fin 4) (t : Transaction) (s : State) :
    (contend l t s).portals = s.portals := by
  simp only [contend]; repeat' split
  all_goals simp
@[simp] theorem contend_overrides (l : Fin 4) (t : Transaction) (s : State) :
    (contend l t s).overrides = s.overrides := by
  simp only [contend]; repeat' split
  all_goals simp
@[simp] theorem contend_link (l : Fin 4) (t : Transaction) (s : State) :
    (contend l t s).link = s.link := by
  simp only [contend]; repeat' split
  all_goals simp
@[simp] theorem contend_store (l : Fin 4) (t : Transaction) (s : State) :
    (contend l t s).store = s.store := by
  simp only [contend]; repeat' split
  all_goals simp
@[simp] theorem contend_pending (l : Fin 4) (t : Transaction) (s : State) :
    (contend l t s).pending = s.pending := by
  simp only [contend]; repeat' split
  all_goals simp

end Sys2Proof.Machine
end

