-- ==== Sys2Proof/Laws/Link.lean ====
section
/-! SUPPORT. No operation but the link unit's own reads or writes the link unit's state: each gives the same with another receive
state. -/

namespace Sys2Proof.Machine

open Sys2Proof

/-- The state with another link unit. -/
def withLink (k : Link) (s : State) : State := { s with link := k }

@[simp] theorem withLink_powered (k : Link) (s : State) : (withLink k s).powered = s.powered := rfl
@[simp] theorem withLink_settings (k : Link) (s : State) : (withLink k s).settings = s.settings := rfl
@[simp] theorem withLink_roster (k : Link) (s : State) : (withLink k s).roster = s.roster := rfl
@[simp] theorem withLink_scanner (k : Link) (s : State) : (withLink k s).scanner = s.scanner := rfl
@[simp] theorem withLink_portals (k : Link) (s : State) : (withLink k s).portals = s.portals := rfl
@[simp] theorem withLink_overrides (k : Link) (s : State) : (withLink k s).overrides = s.overrides := rfl
@[simp] theorem withLink_lines (k : Link) (s : State) : (withLink k s).lines = s.lines := rfl
@[simp] theorem withLink_link (k : Link) (s : State) : (withLink k s).link = k := rfl
@[simp] theorem withLink_events (k : Link) (s : State) : (withLink k s).events = s.events := rfl
@[simp] theorem withLink_store (k : Link) (s : State) : (withLink k s).store = s.store := rfl
@[simp] theorem withLink_pending (k : Link) (s : State) : (withLink k s).pending = s.pending := rfl
@[simp] theorem withLink_withLink (j k : Link) (s : State) : withLink j (withLink k s) = withLink j s := rfl

@[simp] theorem putEntry_withLink (x : Link) (k : Fin 256) (e : Entry) (s : State) :
    (putEntry k e (withLink x s)) = withLink x (putEntry k e s) := rfl
@[simp] theorem mark_withLink (x : Link) (k : Fin 256) (s : State) :
    (mark k (withLink x s)) = withLink x (mark k s) := rfl
@[simp] theorem closeWindow_withLink (x : Link) (s : State) :
    (closeWindow (withLink x s)) = withLink x (closeWindow s) := rfl
@[simp] theorem withWindow_withLink (x : Link) (w : Window) (s : State) :
    (withWindow w (withLink x s)) = withLink x (withWindow w s) := rfl
@[simp] theorem clearConfirmed_withLink (x : Link) (l : Fin 4) (s : State) :
    (clearConfirmed l (withLink x s)) = withLink x (clearConfirmed l s) := rfl
@[simp] theorem modifyLine_withLink (x : Link) (l : Fin 4) (f : LineUnit → LineUnit) (s : State) :
    (modifyLine l f (withLink x s)) = withLink x (modifyLine l f s) := rfl
@[simp] theorem withdraw_withLink (x : Link) (l : Fin 4) (a : Fin 64) (s : State) :
    (withdraw l a (withLink x s)) = withLink x (withdraw l a s) := rfl
@[simp] theorem modifyPortal_withLink (x : Link) (p : Fin 4) (f : PortalLive → PortalLive) (s : State) :
    (modifyPortal p f (withLink x s)) = withLink x (modifyPortal p f s) := rfl
@[simp] theorem modifyPortalConfig_withLink (x : Link) (p : Fin 4) (f : PortalConfig → PortalConfig) (s : State) :
    (modifyPortalConfig p f (withLink x s)) = withLink x (modifyPortalConfig p f s) := rfl
@[simp] theorem withFlags_withLink (x : Link) (f : BitVec 48) (s : State) :
    (withFlags f (withLink x s)) = withLink x (withFlags f s) := rfl
@[simp] theorem report_withLink (x : Link) (e : Event) (s : State) :
    (report e (withLink x s)) = withLink x (report e s) := rfl
@[simp] theorem withScanner_withLink (x : Link) (f : Scanner → Scanner) (s : State) :
    (withScanner f (withLink x s)) = withLink x (withScanner f s) := rfl
@[simp] theorem withStore_withLink (x : Link) (f : Store → Store) (s : State) :
    (withStore f (withLink x s)) = withLink x (withStore f s) := rfl
@[simp] theorem withInput_withLink (x : Link) (i : Fin 6) (v : InputLive) (s : State) :
    (withInput i v (withLink x s)) = withLink x (withInput i v s) := rfl
@[simp] theorem writeLink_withLink (x : Link) (n : Nat) (b : Baud) (s : State) :
    (writeLink n b (withLink x s)) = withLink x (writeLink n b s) := rfl
@[simp] theorem withPending_withLink (x : Link) (q : List Instr) (s : State) :
    (withPending q (withLink x s)) = withLink x (withPending q s) := rfl
@[simp] theorem writeLevels_withLink (x : Link) (p : Fin 4) (s : State) :
    (writeLevels p (withLink x s)) = withLink x (writeLevels p s) := rfl
@[simp] theorem capacityPass_withLink (x : Link) (p : Fin 4) (s : State) :
    (capacityPass p (withLink x s)) = withLink x (capacityPass p s) := rfl

/-- A fold of steps that each commute with `g` commutes with it. -/
theorem foldl_commutes {α β : Type} (g : β → β) (step : β → α → β) (h : ∀ b a, step (g b) a = g (step b a))
    (l : List α) (b : β) :
    l.foldl step (g b) = g (l.foldl step b) := by
  induction l generalizing b with
  | nil => rfl
  | cons a l ih => rw [List.foldl_cons, List.foldl_cons, h, ih]

@[simp] theorem reportIf_withLink (x : Link) (b : Bool) (e : Event) (s : State) :
    (reportIf b e (withLink x s)) = withLink x (reportIf b e s) := by
  unfold reportIf; split <;> rfl
@[simp] theorem markIf_withLink (x : Link) (b : Bool) (k : Fin 256) (s : State) :
    (markIf b k (withLink x s)) = withLink x (markIf b k s) := by
  unfold markIf; split <;> rfl
@[simp] theorem freeSlot_withLink (x : Link) (k : Fin 256) (s : State) :
    (freeSlot k (withLink x s)) = withLink x (freeSlot k s) := rfl
@[simp] theorem hand_withLink (x : Link) (l : Fin 4) (r : Request) (s : State) :
    (hand l r (withLink x s)) = withLink x (hand l r s) := by
  unfold hand; rw [show lineUsable (withLink x s) l = lineUsable s l from rfl]; split <;> rfl
@[simp] theorem handLevel_withLink (x : Link) (l : Fin 4) (k : Fin 256) (a : Fin 64) (c : Nat) (s : State) :
    (handLevel l k a c (withLink x s)) = withLink x (handLevel l k a c s) := by
  simp [handLevel]
@[simp] theorem handOptional_withLink (x : Link) (l : Fin 4) (k : Fin 256) (a : Fin 64) (c : Option Nat) (s : State) :
    (handOptional l k a c (withLink x s)) = withLink x (handOptional l k a c s) := by
  cases c <;> simp [handOptional]
@[simp] theorem startPoll_withLink (x : Link) (l : Fin 4) (s : State) :
    (startPoll l (withLink x s)) = withLink x (startPoll l s) := by
  unfold startPoll; rw [show nextPoll (withLink x s) l = nextPoll s l from rfl]; split <;> rfl
@[simp] theorem consider_withLink (x : Link) (l : Fin 4) (s : State) :
    (consider l (withLink x s)) = withLink x (consider l s) := by
  unfold consider
  rw [show quiet (withLink x s) l = quiet s l from rfl, withLink_lines]
  split <;> [split <;> [skip; split]; skip] <;> simp
@[simp] theorem considerAll_withLink (x : Link) (s : State) :
    (considerAll (withLink x s)) = withLink x (considerAll s) := by
  simp [considerAll]
@[simp] theorem releaseEnds_withLink (x : Link) (l : Fin 4) (k : Fin 256) (a : Fin 64) (s : State) :
    (releaseEnds l k a (withLink x s)) = withLink x (releaseEnds l k a s) := by
  simp only [releaseEnds]; rw [show entryAt (withLink x s) k = entryAt s k from rfl]; split <;> simp
@[simp] theorem discardReleases_withLink (x : Link) (l : Fin 4) (q : List Request) (s : State) :
    (discardReleases l q (withLink x s)) = withLink x (discardReleases l q s) := by
  induction q generalizing s with
  | nil => rfl
  | cons r q ih =>
    simp only [discardReleases, List.foldl_cons] at ih ⊢
    cases r.kind <;> simp [ih]
@[simp] theorem outputPass_withLink (x : Link) (p : Fin 4) (s : State) :
    (outputPass p (withLink x s)) = withLink x (outputPass p s) := by
  simp only [outputPass, withLink_portals, withLink_settings]
  rw [show forceActive (withLink x s) p = forceActive s p from rfl, show limitActive (withLink x s) p = limitActive s p from rfl,
    show inUse (withLink x s) p = inUse s p from rfl]
  simp
@[simp] theorem handRequests_withLink (x : Link) (p : Fin 4) (s : State) :
    handRequests p (withLink x s) = withLink x (handRequests p s) := by
  refine foldl_commutes (withLink x) _ (fun acc y => ?_) _ s
  rw [show wantsRequest (withLink x s) p = wantsRequest s p from rfl]
  dsimp only
  split <;> simp
@[simp] theorem levelPass_withLink (x : Link) (p : Fin 4) (s : State) :
    (levelPass p (withLink x s)) = withLink x (levelPass p s) := by
  simp [levelPass]
@[simp] theorem recompute_withLink (x : Link) (p : Fin 4) (s : State) :
    (recompute p (withLink x s)) = withLink x (recompute p s) := by
  simp only [recompute, withLink_portals]; split <;> simp_all
@[simp] theorem settlePortal_withLink (x : Link) (b a : State) (p : Fin 4) (s : State) :
    settlePortal (withLink x b) (withLink x a) p (withLink x s) = withLink x (settlePortal b a p s) := by
  simp only [settlePortal]
  rw [show forceRaised (withLink x b) (withLink x a) p = forceRaised b a p from rfl,
    show conditionsChanged (withLink x b) (withLink x a) p = conditionsChanged b a p from rfl]
  split <;> simp
@[simp] theorem settleConditions_withLink (x : Link) (b a : State) :
    settleConditions (withLink x b) (withLink x a) = withLink x (settleConditions b a) := by
  simp [settleConditions]
@[simp] theorem recomputeLimited_withLink (x : Link) (s : State) :
    recomputeLimited (withLink x s) = withLink x (recomputeLimited s) := by
  refine foldl_commutes (withLink x) _ (fun acc p => ?_) _ s
  rw [show limitActive (withLink x s) p = limitActive s p from rfl]
  split <;> simp
@[simp] theorem discardInFlight_withLink (x : Link) (l : Fin 4) (t : Transaction) (s : State) :
    (discardInFlight l t (withLink x s)) = withLink x (discardInFlight l t s) := by
  unfold discardInFlight; split <;> simp
@[simp] theorem disableLine_withLink (x : Link) (l : Fin 4) (s : State) :
    (disableLine l (withLink x s)) = withLink x (disableLine l s) := by
  simp only [disableLine, withLink_lines]; split <;> [split; skip] <;> simp

/-! ### Verdicts -/

/-- A verdict with another link unit in the state it leaves. -/
def Verdict.withLink (x : Link) : Verdict → Verdict
  | .refused why => .refused why
  | .taken after data held => .taken (Machine.withLink x after) data held

@[simp] theorem storeWriting_withLink (x : Link) (s : State) : storeWriting (withLink x s) = storeWriting s := rfl
@[simp] theorem entryAt_withLink (x : Link) (s : State) : entryAt (withLink x s) = entryAt s := rfl
@[simp] theorem conflicts_withLink (x : Link) (s : State) : conflicts (withLink x s) = conflicts s := rfl
@[simp] theorem lineUsable_withLink (x : Link) (s : State) : lineUsable (withLink x s) = lineUsable s := rfl
@[simp] theorem lowestFree_withLink (x : Link) (s : State) : lowestFree (withLink x s) = lowestFree s := rfl
@[simp] theorem freedAtOnce_withLink (x : Link) (s : State) : freedAtOnce (withLink x s) = freedAtOnce s := rfl

theorem done_withLink (x : Link) (effect : State → State) (data : State → List Byte) (s : State)
    (he : ∀ s, effect (withLink x s) = withLink x (effect s)) (hd : data (withLink x s) = data s) :
    done effect data (withLink x s) = (done effect data s).withLink x := by
  simp [done, Verdict.withLink, he, hd]


/-! ### The effects of commands -/

@[simp] theorem enterAt_withLink (x : Link) (k : Fin 256) (e : Entry) (s : State) :
    enterAt k e (withLink x s) = withLink x (enterAt k e s) := rfl

/-- A choice on conditions that agree, of what commutes with `g`, commutes with `g`. -/
theorem ite_commutes {β : Type} (g : β → β) {c d : Prop} [Decidable c] [Decidable d] {a b a' b' : β} (hc : d ↔ c)
    (ha : a' = g a) (hb : b' = g b) : (if d then a' else b') = g (if c then a else b) := by
  by_cases h : c <;> simp [h, hc, ha, hb]

@[simp] theorem amendAt_withLink (x : Link) (k : Fin 256) (e : Entry) (b : Bool) (s : State) :
    amendAt k e b (withLink x s) = withLink x (amendAt k e b s) :=
  ite_commutes (withLink x) Iff.rfl (by simp) (by simp)

@[simp] theorem retireAt_withLink (x : Link) (k : Fin 256) (e : Entry) (s : State) :
    retireAt k e (withLink x s) = withLink x (retireAt k e s) := by
  simp [retireAt]

@[simp] theorem pinAt_withLink (x : Link) (k : Fin 256) (c : Nat) (e : Entry) (s : State) :
    pinAt k c e (withLink x s) = withLink x (pinAt k c e s) :=
  ite_commutes (withLink x) Iff.rfl (by simp) (by simp)

/-- The configuration and the live record that SET_PORTAL writes. -/
theorem reconfigure_withLink (x : Link) (p : Fin 4) (new : PortalConfig) (f : PortalLive → PortalLive) (s : State) :
    modifyPortal p f (modifyPortalConfig p (fun _ => new) (withLink x s)) =
      withLink x (modifyPortal p f (modifyPortalConfig p (fun _ => new) s)) := rfl

@[simp] theorem setPortalAt_withLink (x : Link) (p : Fin 4) (c : PortalFields) (a b : Option (Fin 8)) (s : State) :
    setPortalAt p c a b (withLink x s) = withLink x (setPortalAt p c a b s) := by
  refine ite_commutes (withLink x) Iff.rfl rfl ?_
  rw [← considerAll_withLink, ← recompute_withLink]
  rfl

@[simp] theorem setRoleAt_withLink (x : Link) (p : Fin 4) (r : Role) (s : State) :
    setRoleAt p r (withLink x s) = withLink x (setRoleAt p r s) := by
  refine ite_commutes (withLink x) Iff.rfl rfl ?_
  cases r
  · rfl
  · exact ite_commutes (withLink x) Iff.rfl rfl rfl
  · dsimp only
    rw [← considerAll_withLink, ← recompute_withLink]
    rfl

@[simp] theorem setStagesAt_withLink (x : Link) (p : Fin 4) (l : List (Nat × Nat)) (s : State) :
    setStagesAt p l (withLink x s) = withLink x (setStagesAt p l s) := rfl

@[simp] theorem changeOverrides_withLink (x : Link) (f : Overrides → Overrides) (s : State) :
    changeOverrides f (withLink x s) = withLink x (changeOverrides f s) := by
  unfold changeOverrides
  exact settleConditions_withLink x s { s with overrides := f s.overrides }

@[simp] theorem changeMissLimit_withLink (x : Link) (n : Nat) (s : State) :
    changeMissLimit n (withLink x s) = withLink x (changeMissLimit n s) :=
  ite_commutes (withLink x) Iff.rfl rfl rfl

@[simp] theorem switchLine_withLink (x : Link) (m : BitVec 4) (l : Fin 4) (s : State) :
    switchLine m l (withLink x s) = withLink x (switchLine m l s) := by
  refine ite_commutes (withLink x) Iff.rfl rfl (ite_commutes (withLink x) Iff.rfl ?_ ?_)
  · rw [← consider_withLink]; rfl
  · rw [← disableLine_withLink]; rfl

@[simp] theorem setLinesAt_withLink (x : Link) (m : BitVec 4) (n : Nat) (s : State) :
    setLinesAt m n (withLink x s) = withLink x (setLinesAt m n s) := by
  simp [setLinesAt]

/-! ### Owners -/

theorem takeEnterChecked_withLink (x : Link) (asked : Option (Fin 256)) (e : Entry) (s : State) :
    takeEnterChecked asked e (withLink x s) = (takeEnterChecked asked e s).withLink x := by
  unfold takeEnterChecked
  rw [lowestFree_withLink]
  rcases asked.or (lowestFree s) with _ | _
  all_goals
    repeat' first
      | exact Eq.refl (Verdict.refused _)
      | exact done_withLink x _ _ s (fun s => by simp) rfl
      | exact Eq.refl (Verdict.taken _ _ _)
      | refine ite_commutes (Verdict.withLink x) Iff.rfl ?_ ?_

theorem takeEnter_withLink (x : Link) (slot line address portal stage cls q age pin : Nat) (s : State) :
    takeEnter slot line address portal stage cls q age pin (withLink x s) =
      (takeEnter slot line address portal stage cls q age pin s).withLink x := by
  unfold takeEnter
  rcases slotAsked slot with _ | _
  · first
      | exact Eq.refl (Verdict.refused _)
  rcases idOf 4 line with _ | _
  · first
      | exact Eq.refl (Verdict.refused _)
  rcases idOf 64 address with _ | _
  · first
      | exact Eq.refl (Verdict.refused _)
  rcases idOf 4 portal with _ | _
  · first
      | exact Eq.refl (Verdict.refused _)
  rcases idOf 8 stage with _ | _
  · first
      | exact Eq.refl (Verdict.refused _)
  rcases idOf 4 cls with _ | _
  · first
      | exact Eq.refl (Verdict.refused _)
  rcases pinFieldOf pin with _ | _
  all_goals
    repeat' first
      | exact Eq.refl (Verdict.refused _)
      | exact takeEnterChecked_withLink x _ _ s
      | exact done_withLink x _ _ s (fun s => by simp) rfl
      | exact Eq.refl (Verdict.taken _ _ _)
      | refine ite_commutes (Verdict.withLink x) Iff.rfl ?_ ?_

theorem takeAmendChecked_withLink (x : Link) (k : Fin 256) (portal : Option (Fin 4)) (stage : Option (Fin 8))
    (cls : Option (Fin 4)) (q age : Option Nat) (line : Option (Fin 4)) (address : Option (Fin 64)) (s : State) :
    takeAmendChecked k portal stage cls q age line address (withLink x s) =
      (takeAmendChecked k portal stage cls q age line address s).withLink x := by
  unfold takeAmendChecked
  repeat' first
    | exact Eq.refl (Verdict.refused _)
    | exact done_withLink x _ _ s (fun s => by simp) rfl
    | exact Eq.refl (Verdict.taken _ _ _)
    | refine ite_commutes (Verdict.withLink x) Iff.rfl ?_ ?_

theorem takeAmend_withLink (x : Link) (slot : Nat) (present : BitVec 8) (portal stage cls q age line address : Nat)
    (s : State) :
    takeAmend slot present portal stage cls q age line address (withLink x s) =
      (takeAmend slot present portal stage cls q age line address s).withLink x := by
  unfold takeAmend
  rcases idOf 256 slot with _ | _
  · first
      | exact Eq.refl (Verdict.refused _)
      | exact ite_commutes (Verdict.withLink x) Iff.rfl rfl rfl
  rcases presentField present 0 (idOf 4 portal) with _ | _
  · first
      | exact Eq.refl (Verdict.refused _)
      | exact ite_commutes (Verdict.withLink x) Iff.rfl rfl rfl
  rcases presentField present 1 (idOf 8 stage) with _ | _
  · first
      | exact Eq.refl (Verdict.refused _)
      | exact ite_commutes (Verdict.withLink x) Iff.rfl rfl rfl
  rcases presentField present 2 (idOf 4 cls) with _ | _
  · first
      | exact Eq.refl (Verdict.refused _)
      | exact ite_commutes (Verdict.withLink x) Iff.rfl rfl rfl
  rcases presentField present 3 (if qInRange q then some q else none) with _ | _
  · first
      | exact Eq.refl (Verdict.refused _)
      | exact ite_commutes (Verdict.withLink x) Iff.rfl rfl rfl
  rcases presentField present 4 (some age) with _ | _
  · first
      | exact Eq.refl (Verdict.refused _)
      | exact ite_commutes (Verdict.withLink x) Iff.rfl rfl rfl
  rcases presentField present 5 (idOf 4 line) with _ | _
  · first
      | exact Eq.refl (Verdict.refused _)
      | exact ite_commutes (Verdict.withLink x) Iff.rfl rfl rfl
  rcases presentField present 6 (idOf 64 address) with _ | _
  all_goals
    repeat' first
      | exact Eq.refl (Verdict.refused _)
      | exact takeAmendChecked_withLink x _ _ _ _ _ _ _ _ s
      | exact Eq.refl (Verdict.taken _ _ _)
      | refine ite_commutes (Verdict.withLink x) Iff.rfl ?_ ?_

theorem takeSuspend_withLink (x : Link) (slot : Nat) (s : State) :
    takeSuspend slot (withLink x s) = (takeSuspend slot s).withLink x := by
  unfold takeSuspend
  rcases idOf 256 slot with _ | _
  all_goals
    repeat' first
      | exact Eq.refl (Verdict.refused _)
      | exact done_withLink x _ _ s (fun s => by simp) rfl
      | exact Eq.refl (Verdict.taken _ _ _)
      | refine ite_commutes (Verdict.withLink x) Iff.rfl ?_ ?_

theorem takeResume_withLink (x : Link) (slot : Nat) (s : State) :
    takeResume slot (withLink x s) = (takeResume slot s).withLink x := by
  unfold takeResume
  rcases idOf 256 slot with _ | _
  all_goals
    repeat' first
      | exact Eq.refl (Verdict.refused _)
      | exact done_withLink x _ _ s (fun s => by simp) rfl
      | exact Eq.refl (Verdict.taken _ _ _)
      | refine ite_commutes (Verdict.withLink x) Iff.rfl ?_ ?_

theorem takeRetire_withLink (x : Link) (slot : Nat) (s : State) :
    takeRetire slot (withLink x s) = (takeRetire slot s).withLink x := by
  unfold takeRetire
  rcases idOf 256 slot with _ | _
  all_goals
    repeat' first
      | exact Eq.refl (Verdict.refused _)
      | exact done_withLink x _ _ s (fun s => by simp) rfl
      | exact Eq.refl (Verdict.taken _ _ _)
      | refine ite_commutes (Verdict.withLink x) Iff.rfl ?_ ?_

theorem takePin_withLink (x : Link) (slot code : Nat) (s : State) :
    takePin slot code (withLink x s) = (takePin slot code s).withLink x := by
  unfold takePin
  rcases idOf 256 slot with _ | _
  all_goals
    repeat' first
      | exact Eq.refl (Verdict.refused _)
      | exact done_withLink x _ _ s (fun s => by simp) rfl
      | exact Eq.refl (Verdict.taken _ _ _)
      | refine ite_commutes (Verdict.withLink x) Iff.rfl ?_ ?_

theorem takeUnpin_withLink (x : Link) (slot : Nat) (s : State) :
    takeUnpin slot (withLink x s) = (takeUnpin slot s).withLink x := by
  unfold takeUnpin
  rcases idOf 256 slot with _ | _
  all_goals
    repeat' first
      | exact Eq.refl (Verdict.refused _)
      | exact done_withLink x _ _ s (fun s => by simp) rfl
      | exact Eq.refl (Verdict.taken _ _ _)
      | refine ite_commutes (Verdict.withLink x) Iff.rfl ?_ ?_

theorem takeLocate_withLink (x : Link) (slot : Nat) (s : State) :
    takeLocate slot (withLink x s) = (takeLocate slot s).withLink x := by
  unfold takeLocate
  rcases idOf 256 slot with _ | _
  all_goals
    repeat' first
      | exact Eq.refl (Verdict.refused _)
      | exact done_withLink x _ _ s (fun s => by simp) rfl
      | exact Eq.refl (Verdict.taken _ _ _)
      | refine ite_commutes (Verdict.withLink x) Iff.rfl ?_ ?_

theorem takeLookup_withLink (x : Link) (slot : Nat) (s : State) :
    takeLookup slot (withLink x s) = (takeLookup slot s).withLink x := by
  unfold takeLookup
  rcases idOf 256 slot with _ | _
  all_goals
    repeat' first
      | exact Eq.refl (Verdict.refused _)
      | exact done_withLink x _ _ s (fun s => by simp) rfl

theorem takeFind_withLink (x : Link) (line address : Nat) (s : State) :
    takeFind line address (withLink x s) = (takeFind line address s).withLink x := by
  unfold takeFind
  rcases idOf 4 line with _ | _
  · first
      | exact Eq.refl (Verdict.refused _)
  rcases idOf 64 address with _ | _
  all_goals
    repeat' first
      | exact Eq.refl (Verdict.refused _)
      | exact done_withLink x _ _ s (fun s => by simp) rfl

theorem takeOpenWindow_withLink (x : Link) (first last direction : Nat) (s : State) :
    takeOpenWindow first last direction (withLink x s) = (takeOpenWindow first last direction s).withLink x := by
  unfold takeOpenWindow
  rcases directionOf direction with _ | _
  all_goals
    repeat' first
      | exact Eq.refl (Verdict.refused _)
      | exact done_withLink x _ _ s (fun s => rfl) rfl
      | exact Eq.refl (Verdict.taken _ _ _)
      | refine ite_commutes (Verdict.withLink x) Iff.rfl ?_ ?_

theorem takeReadNext_withLink (x : Link) (count : Nat) (s : State) :
    takeReadNext count (withLink x s) = (takeReadNext count s).withLink x := by
  unfold takeReadNext
  rw [withLink_roster]
  rcases s.roster.window with _ | _
  all_goals
    repeat' first
      | exact Eq.refl (Verdict.refused _)
      | exact done_withLink x _ _ s (fun s => by simp) rfl
      | exact Eq.refl (Verdict.taken _ _ _)
      | refine ite_commutes (Verdict.withLink x) Iff.rfl ?_ ?_

theorem takeReadMarks_withLink (x : Link) (s : State) :
    takeReadMarks  (withLink x s) = (takeReadMarks  s).withLink x := by
  unfold takeReadMarks
  all_goals
    repeat' first
      | exact Eq.refl (Verdict.refused _)
      | exact done_withLink x _ _ s (fun s => by simp) rfl

theorem takeClearMarks_withLink (x : Link) (mask : BitVec 32) (s : State) :
    takeClearMarks mask (withLink x s) = (takeClearMarks mask s).withLink x := by
  unfold takeClearMarks
  all_goals
    repeat' first
      | exact Eq.refl (Verdict.refused _)
      | exact done_withLink x _ _ s (fun s => rfl) rfl

theorem takeSetChannel_withLink (x : Link) (channel offset gain low high : Nat) (s : State) :
    takeSetChannel channel offset gain low high (withLink x s) =
      (takeSetChannel channel offset gain low high s).withLink x := by
  unfold takeSetChannel
  rcases idOf 8 channel with _ | _
  all_goals
    repeat' first
      | exact Eq.refl (Verdict.refused _)
      | exact done_withLink x _ _ s (fun s => rfl) rfl
      | exact Eq.refl (Verdict.taken _ _ _)
      | refine ite_commutes (Verdict.withLink x) Iff.rfl ?_ ?_

theorem takeSetScan_withLink (x : Link) (positions : List Nat) (interval : Nat) (s : State) :
    takeSetScan positions interval (withLink x s) = (takeSetScan positions interval s).withLink x := by
  unfold takeSetScan
  rcases tableOf 8 positions with _ | _
  · first
      | exact Eq.refl (Verdict.refused _)
  rcases (allSome channelFieldOf positions).bind (tableOf 8) with _ | _
  all_goals
    repeat' first
      | exact Eq.refl (Verdict.refused _)
      | exact done_withLink x _ _ s (fun s => rfl) rfl
      | exact Eq.refl (Verdict.taken _ _ _)
      | refine ite_commutes (Verdict.withLink x) Iff.rfl ?_ ?_

theorem takeReadChannel_withLink (x : Link) (channel : Nat) (s : State) :
    takeReadChannel channel (withLink x s) = (takeReadChannel channel s).withLink x := by
  unfold takeReadChannel
  rcases idOf 8 channel with _ | _
  all_goals
    repeat' first
      | exact Eq.refl (Verdict.refused _)
      | exact done_withLink x _ _ s (fun s => by simp) rfl

theorem takeSetPortal_withLink (x : Link) (portal : Nat) (c : PortalFields) (s : State) :
    takeSetPortal portal c (withLink x s) = (takeSetPortal portal c s).withLink x := by
  unfold takeSetPortal
  rcases idOf 4 portal with _ | _
  · first
      | exact Eq.refl (Verdict.refused _)
  rcases channelFieldOf c.primary with _ | _
  · first
      | exact Eq.refl (Verdict.refused _)
  rcases channelFieldOf c.secondary with _ | _
  all_goals
    repeat' first
      | exact Eq.refl (Verdict.refused _)
      | exact done_withLink x _ _ s (fun s => by simp) rfl
      | exact Eq.refl (Verdict.taken _ _ _)
      | refine ite_commutes (Verdict.withLink x) Iff.rfl ?_ ?_

theorem takeSetRole_withLink (x : Link) (portal role : Nat) (s : State) :
    takeSetRole portal role (withLink x s) = (takeSetRole portal role s).withLink x := by
  unfold takeSetRole
  rcases idOf 4 portal with _ | _
  · first
      | exact Eq.refl (Verdict.refused _)
  rcases roleOf role with _ | _
  all_goals
    repeat' first
      | exact Eq.refl (Verdict.refused _)
      | exact done_withLink x _ _ s (fun s => by simp) rfl
      | exact Eq.refl (Verdict.taken _ _ _)
      | refine ite_commutes (Verdict.withLink x) Iff.rfl ?_ ?_

theorem takeSetManual_withLink (x : Link) (portal luminance : Nat) (s : State) :
    takeSetManual portal luminance (withLink x s) = (takeSetManual portal luminance s).withLink x := by
  unfold takeSetManual
  rcases idOf 4 portal with _ | _
  all_goals
    repeat' first
      | exact Eq.refl (Verdict.refused _)
      | exact done_withLink x _ _ s (fun s => rfl) rfl
      | exact Eq.refl (Verdict.taken _ _ _)
      | refine ite_commutes (Verdict.withLink x) Iff.rfl ?_ ?_

theorem takeSetAuto_withLink (x : Link) (portal : Nat) (s : State) :
    takeSetAuto portal (withLink x s) = (takeSetAuto portal s).withLink x := by
  unfold takeSetAuto
  rcases idOf 4 portal with _ | _
  all_goals
    repeat' first
      | exact Eq.refl (Verdict.refused _)
      | exact done_withLink x _ _ s (fun s => rfl) rfl
      | exact Eq.refl (Verdict.taken _ _ _)
      | refine ite_commutes (Verdict.withLink x) Iff.rfl ?_ ?_

theorem takeReadPortal_withLink (x : Link) (portal : Nat) (s : State) :
    takeReadPortal portal (withLink x s) = (takeReadPortal portal s).withLink x := by
  unfold takeReadPortal
  rcases idOf 4 portal with _ | _
  all_goals
    repeat' first
      | exact Eq.refl (Verdict.refused _)
      | exact done_withLink x _ _ s (fun s => by simp) rfl

theorem takeSetStages_withLink (x : Link) (portal count : Nat) (pairs : List (Nat × Nat)) (s : State) :
    takeSetStages portal count pairs (withLink x s) = (takeSetStages portal count pairs s).withLink x := by
  unfold takeSetStages
  rcases idOf 4 portal with _ | _
  all_goals
    repeat' first
      | exact Eq.refl (Verdict.refused _)
      | exact done_withLink x _ _ s (fun s => rfl) rfl
      | exact Eq.refl (Verdict.taken _ _ _)
      | refine ite_commutes (Verdict.withLink x) Iff.rfl ?_ ?_

theorem takeSetCompute_withLink (x : Link) (mode thermal ceiling : Nat) (s : State) :
    takeSetCompute mode thermal ceiling (withLink x s) = (takeSetCompute mode thermal ceiling s).withLink x := by
  unfold takeSetCompute
  rcases roundingOf mode with _ | _
  all_goals
    repeat' first
      | exact Eq.refl (Verdict.refused _)
      | exact done_withLink x _ _ s (fun s => by
        rw [← considerAll_withLink, ← recomputeLimited_withLink]; rfl) rfl
      | exact Eq.refl (Verdict.taken _ _ _)
      | refine ite_commutes (Verdict.withLink x) Iff.rfl ?_ ?_

theorem takeSetMaintenance_withLink (x : Link) (count : Nat) (rows : List (Nat × Nat)) (s : State) :
    takeSetMaintenance count rows (withLink x s) = (takeSetMaintenance count rows s).withLink x := by
  unfold takeSetMaintenance
  all_goals
    repeat' first
      | exact Eq.refl (Verdict.refused _)
      | exact done_withLink x _ _ s (fun s => rfl) rfl
      | exact Eq.refl (Verdict.taken _ _ _)
      | refine ite_commutes (Verdict.withLink x) Iff.rfl ?_ ?_

theorem takeSetCurve_withLink (x : Link) (cls : Nat) (points : List Nat) (s : State) :
    takeSetCurve cls points (withLink x s) = (takeSetCurve cls points s).withLink x := by
  unfold takeSetCurve
  rcases tableOf 17 points with _ | _
  · first
      | exact Eq.refl (Verdict.refused _)
  rcases idOf 4 cls with _ | _
  all_goals
    repeat' first
      | exact Eq.refl (Verdict.refused _)
      | exact done_withLink x _ _ s (fun s => rfl) rfl
      | exact Eq.refl (Verdict.taken _ _ _)
      | refine ite_commutes (Verdict.withLink x) Iff.rfl ?_ ?_

theorem takeReadTables_withLink (x : Link) (cls : Nat) (s : State) :
    takeReadTables cls (withLink x s) = (takeReadTables cls s).withLink x := by
  unfold takeReadTables
  rcases idOf 4 cls with _ | _
  all_goals
    repeat' first
      | exact Eq.refl (Verdict.refused _)
      | exact done_withLink x _ _ s (fun s => by simp) rfl

theorem takeForce_withLink (x : Link) (mask : BitVec 8) (s : State) :
    takeForce mask (withLink x s) = (takeForce mask s).withLink x := by
  unfold takeForce takeMask
  rcases fourPositions mask with _ | _
  all_goals
    repeat' first
      | exact Eq.refl (Verdict.refused _)
      | exact done_withLink x _ _ s (fun s => by simp) rfl

theorem takeUnforce_withLink (x : Link) (mask : BitVec 8) (s : State) :
    takeUnforce mask (withLink x s) = (takeUnforce mask s).withLink x := by
  unfold takeUnforce takeMask
  rcases fourPositions mask with _ | _
  all_goals
    repeat' first
      | exact Eq.refl (Verdict.refused _)
      | exact done_withLink x _ _ s (fun s => by simp) rfl

theorem takeLimit_withLink (x : Link) (mask : BitVec 8) (s : State) :
    takeLimit mask (withLink x s) = (takeLimit mask s).withLink x := by
  unfold takeLimit takeMask
  rcases fourPositions mask with _ | _
  all_goals
    repeat' first
      | exact Eq.refl (Verdict.refused _)
      | exact done_withLink x _ _ s (fun s => by simp) rfl

theorem takeUnlimit_withLink (x : Link) (mask : BitVec 8) (s : State) :
    takeUnlimit mask (withLink x s) = (takeUnlimit mask s).withLink x := by
  unfold takeUnlimit takeMask
  rcases fourPositions mask with _ | _
  all_goals
    repeat' first
      | exact Eq.refl (Verdict.refused _)
      | exact done_withLink x _ _ s (fun s => by simp) rfl

theorem takeFreeze_withLink (x : Link) (mask : BitVec 8) (s : State) :
    takeFreeze mask (withLink x s) = (takeFreeze mask s).withLink x := by
  unfold takeFreeze takeMask
  rcases fourPositions mask with _ | _
  all_goals
    repeat' first
      | exact Eq.refl (Verdict.refused _)
      | exact done_withLink x _ _ s (fun s => rfl) rfl

theorem takeUnfreeze_withLink (x : Link) (mask : BitVec 8) (s : State) :
    takeUnfreeze mask (withLink x s) = (takeUnfreeze mask s).withLink x := by
  unfold takeUnfreeze takeMask
  rcases fourPositions mask with _ | _
  all_goals
    repeat' first
      | exact Eq.refl (Verdict.refused _)
      | exact done_withLink x _ _ s (fun s => rfl) rfl

theorem takeReadInputs_withLink (x : Link) (s : State) :
    takeReadInputs  (withLink x s) = (takeReadInputs  s).withLink x := by
  unfold takeReadInputs
  all_goals
    repeat' first
      | exact Eq.refl (Verdict.refused _)
      | exact done_withLink x _ _ s (fun s => rfl) rfl

theorem takeSetLines_withLink (x : Link) (enables : BitVec 8) (missLimit : Nat) (s : State) :
    takeSetLines enables missLimit (withLink x s) = (takeSetLines enables missLimit s).withLink x := by
  unfold takeSetLines
  rcases fourPositions enables with _ | _
  all_goals
    repeat' first
      | exact Eq.refl (Verdict.refused _)
      | exact done_withLink x _ _ s (fun s => by simp) rfl
      | exact Eq.refl (Verdict.taken _ _ _)
      | refine ite_commutes (Verdict.withLink x) Iff.rfl ?_ ?_

theorem takeReadLine_withLink (x : Link) (line : Nat) (s : State) :
    takeReadLine line (withLink x s) = (takeReadLine line s).withLink x := by
  unfold takeReadLine
  rcases idOf 4 line with _ | _
  all_goals
    repeat' first
      | exact Eq.refl (Verdict.refused _)
      | exact done_withLink x _ _ s (fun s => by simp) rfl

theorem takeSetMask_withLink (x : Link) (mask : BitVec 48) (s : State) :
    takeSetMask mask (withLink x s) = (takeSetMask mask s).withLink x := by
  unfold takeSetMask
  all_goals
    repeat' first
      | exact Eq.refl (Verdict.refused _)
      | exact done_withLink x _ _ s (fun s => rfl) rfl
      | exact Eq.refl (Verdict.taken _ _ _)
      | refine ite_commutes (Verdict.withLink x) Iff.rfl ?_ ?_

theorem takeClearEvents_withLink (x : Link) (mask : BitVec 48) (s : State) :
    takeClearEvents mask (withLink x s) = (takeClearEvents mask s).withLink x := by
  unfold takeClearEvents
  all_goals
    repeat' first
      | exact Eq.refl (Verdict.refused _)
      | exact done_withLink x _ _ s (fun s => rfl) rfl

theorem takeReadStatus_withLink (x : Link) (s : State) :
    takeReadStatus  (withLink x s) = (takeReadStatus  s).withLink x := by
  unfold takeReadStatus
  all_goals
    repeat' first
      | exact Eq.refl (Verdict.refused _)
      | exact done_withLink x _ _ s (fun s => by simp) rfl

theorem takeStore_withLink (x : Link) (s : State) :
    takeStore  (withLink x s) = (takeStore  s).withLink x := by
  unfold takeStore
  all_goals
    repeat' first
      | exact Eq.refl (Verdict.refused _)
      | exact done_withLink x _ _ s (fun s => rfl) rfl
      | exact Eq.refl (Verdict.taken _ _ _)
      | refine ite_commutes (Verdict.withLink x) Iff.rfl ?_ ?_

theorem takeRestart_withLink (x : Link) (s : State) :
    takeRestart  (withLink x s) = (takeRestart  s).withLink x := by
  unfold takeRestart
  all_goals
    repeat' first
      | exact Eq.refl (Verdict.refused _)
      | exact done_withLink x _ _ s (fun s => by simp) rfl
      | exact Eq.refl (Verdict.taken _ _ _)
      | refine ite_commutes (Verdict.withLink x) Iff.rfl ?_ ?_

theorem takeSetLink_withLink (x : Link) (station baud : Nat) (s : State) :
    takeSetLink station baud (withLink x s) = (takeSetLink station baud s).withLink x := by
  unfold takeSetLink
  rcases baudOf baud with _ | _
  all_goals
    repeat' first
      | exact Eq.refl (Verdict.refused _)
      | exact done_withLink x _ _ s (fun s => by simp) rfl
      | exact Eq.refl (Verdict.taken _ _ _)
      | refine ite_commutes (Verdict.withLink x) Iff.rfl ?_ ?_

theorem takeSetInput_withLink (x : Link) (input function : Nat) (mask : BitVec 8) (sense polarity : Nat) (s : State) :
    takeSetInput input function mask sense polarity (withLink x s) =
      (takeSetInput input function mask sense polarity s).withLink x := by
  unfold takeSetInput
  rcases fourPositions mask with _ | m
  · rfl
  rcases inputOf input with _ | i
  · rfl
  rcases functionOf function with _ | f
  · rfl
  rcases senseOf sense with _ | se
  · rfl
  rcases polarityOf polarity with _ | po
  · rfl
  refine ite_commutes (Verdict.withLink x) Iff.rfl rfl (done_withLink x _ _ s (fun s => ?_) rfl)
  exact settleConditions_withLink x s
    { s with settings := { s.settings with inputs := s.settings.inputs.set i ⟨f, m, se, po⟩ } }

/-- A transfer whose roster stands beside another link unit. -/
def Transfer.withLink (x : Link) (t : Transfer) : Transfer := { t with state := Machine.withLink x t.state }

@[simp] theorem transferRecord_withLink (x : Link) (r : EntryRecord) (t : Transfer) :
    transferRecord r (t.withLink x) = (transferRecord r t).withLink x := by
  refine ite_commutes (Transfer.withLink x) Iff.rfl rfl (ite_commutes (Transfer.withLink x) Iff.rfl rfl
    (ite_commutes (Transfer.withLink x) Iff.rfl rfl ?_))
  show (match idOf 256 t.window.cursor with
    | none => _
    | some slot => _) = _
  rcases idOf 256 t.window.cursor with _ | slot
  · rfl
  · show (match recordRefusal slot r t.state with
      | some why => _
      | none => _) = Transfer.withLink x (match recordRefusal slot r t.state with
      | some why => _
      | none => _)
    rcases recordRefusal slot r t.state with _ | why <;> rfl

@[simp] theorem transferAll_withLink (x : Link) (records : List EntryRecord) (w : Window) (s : State) :
    transferAll records w (withLink x s) = (transferAll records w s).withLink x :=
  foldl_commutes (Transfer.withLink x) (fun t r => transferRecord r t) (fun t r => transferRecord_withLink x r t) records
    ⟨s, w, 0, 0, 0, .done⟩

theorem takeWriteNext_withLink (x : Link) (records : List EntryRecord) (s : State) :
    takeWriteNext records (withLink x s) = (takeWriteNext records s).withLink x := by
  unfold takeWriteNext
  refine ite_commutes (Verdict.withLink x) Iff.rfl rfl (ite_commutes (Verdict.withLink x) Iff.rfl rfl ?_)
  rw [withLink_roster]
  rcases s.roster.window with _ | w
  · rfl
  · refine ite_commutes (Verdict.withLink x) Iff.rfl ?_ rfl
    simp [Transfer.withLink, Verdict.withLink]

/-- A command's owner answers the same whatever the link unit holds, and leaves the link unit alone (R162). -/
theorem owner_withLink (x : Link) (c : Instr) (s : State) : owner c (withLink x s) = (owner c s).withLink x := by
  cases c with
  | enter slot line address portal stage cls q age pin => exact takeEnter_withLink x _ _ _ _ _ _ _ _ _ s
  | amend slot present portal stage cls q age line address => exact takeAmend_withLink x _ _ _ _ _ _ _ _ _ s
  | suspend slot => exact takeSuspend_withLink x _ s
  | resume slot => exact takeResume_withLink x _ s
  | retire slot => exact takeRetire_withLink x _ s
  | pin slot code => exact takePin_withLink x _ _ s
  | unpin slot => exact takeUnpin_withLink x _ s
  | locate slot => exact takeLocate_withLink x _ s
  | lookup slot => exact takeLookup_withLink x _ s
  | find line address => exact takeFind_withLink x _ _ s
  | openWindow first last direction => exact takeOpenWindow_withLink x _ _ _ s
  | writeNext records => exact takeWriteNext_withLink x _ s
  | readNext count => exact takeReadNext_withLink x _ s
  | readMarks => exact takeReadMarks_withLink x s
  | clearMarks mask => exact takeClearMarks_withLink x _ s
  | setChannel channel offset gain low high => exact takeSetChannel_withLink x _ _ _ _ _ s
  | setScan positions interval => exact takeSetScan_withLink x _ _ s
  | readChannel channel => exact takeReadChannel_withLink x _ s
  | setPortal portal fields => exact takeSetPortal_withLink x _ _ s
  | setRole portal role => exact takeSetRole_withLink x _ _ s
  | setManual portal luminance => exact takeSetManual_withLink x _ _ s
  | setAuto portal => exact takeSetAuto_withLink x _ s
  | readPortal portal => exact takeReadPortal_withLink x _ s
  | setStages portal count pairs => exact takeSetStages_withLink x _ _ _ s
  | setCompute mode thermal ceiling => exact takeSetCompute_withLink x _ _ _ s
  | setMaintenance count rows => exact takeSetMaintenance_withLink x _ _ s
  | setCurve cls points => exact takeSetCurve_withLink x _ _ s
  | readTables cls => exact takeReadTables_withLink x _ s
  | force _ mask => exact takeForce_withLink x _ s
  | unforce _ mask => exact takeUnforce_withLink x _ s
  | limit _ mask => exact takeLimit_withLink x _ s
  | unlimit _ mask => exact takeUnlimit_withLink x _ s
  | freeze _ mask => exact takeFreeze_withLink x _ s
  | unfreeze _ mask => exact takeUnfreeze_withLink x _ s
  | setInput input function mask sense polarity => exact takeSetInput_withLink x _ _ _ _ _ s
  | readInputs => exact takeReadInputs_withLink x s
  | setLines enables missLimit => exact takeSetLines_withLink x _ _ s
  | readLine line => exact takeReadLine_withLink x _ s
  | setLink station baud => exact takeSetLink_withLink x _ _ s
  | setMask mask => exact takeSetMask_withLink x _ s
  | clearEvents mask => exact takeClearEvents_withLink x _ s
  | readStatus => exact takeReadStatus_withLink x s
  | store => exact takeStore_withLink x s
  | restart => exact takeRestart_withLink x s
  | fullReset => rfl
  | ageTickExpiry => rfl
  | scanTimerExpiry => rfl
  | conversionComplete _ => rfl
  | updateTimerExpiry _ => rfl
  | inputLevelChange _ _ => rfl
  | debounceExpiry _ => rfl
  | forwardFrameEnd _ => rfl
  | contention _ => rfl
  | replyOutcome _ _ => rfl
  | transactionEnd _ => rfl
  | faultWaitExpiry _ => rfl
  | probeEnd _ => rfl
  | addressCharacter _ => rfl
  | dataCharacter _ => rfl
  | gapTimerExpiry => rfl
  | responseStart => rfl
  | responseEnd => rfl
  | storeWriteComplete _ => rfl
  | spoiledCharacter => rfl
  | backwardFrameStart _ _ => rfl
  | powerLoss => rfl

end Sys2Proof.Machine
end

