-- ==== Sys2Proof/Laws/Commands.lean ====
section
/-! SUPPORT. A link command as one step: how it comes to its owner, and what its dispatch leaves. -/

namespace Sys2Proof.Machine

open Sys2Proof

/-- The step of a command that a message carries is its owner's verdict, delivered (R162, R168). -/
theorem exec_of_encodes {c : Instr} {dest : Dest} {content : List Byte} (h : encodeMessage c = some (dest, content))
    (s : State) : exec c s = command dest (owner c) s := by
  cases c <;> cases h <;> rfl

/-- A message that is heard is dispatched (R159, R160). -/
theorem wholeMessage_of_hears {s : State} (h : hears s = true) (dest : Dest) (take : State → Verdict) :
    wholeMessage dest take s = deliver dest take s := by
  unfold hears at h
  unfold wholeMessage
  split <;> simp_all

theorem powered_of_hears {s : State} (h : hears s = true) : s.powered = true := by
  unfold hears at h
  simp_all

/-- The step of a heard command. -/
theorem command_of_hears {s : State} (h : hears s = true) (dest : Dest) (take : State → Verdict) :
    command dest take s = .next (deliver dest take s) := by
  simp [command, whenPowered, powered_of_hears h, wholeMessage_of_hears h]

/-- A refused command leaves the response alone (R163). -/
theorem deliver_refused {dest : Dest} {take : State → Verdict} {s : State} {why : Status}
    (h : take s = .refused why) : deliver dest take s = { s with link := linkAfter dest s why [] .nothing } := by
  cases dest <;> simp only [deliver, h] <;> rfl

/-- A taken command leaves its effect, and the response with its data (R162, R165). -/
theorem deliver_taken {dest : Dest} {take : State → Verdict} {s after : State} {data : List Byte} {held : Held}
    (h : take s = .taken after data held) :
    deliver dest take s = { after with link := linkAfter dest s .done data held } := by
  cases dest <;> simp only [deliver, h] <;> rfl

/-- A heard command that its owner refuses. -/
theorem command_refused {s : State} (h : hears s = true) {dest : Dest} {take : State → Verdict} {why : Status}
    (hv : take s = .refused why) :
    command dest take s = .next { s with link := linkAfter dest s why [] .nothing } := by
  rw [command_of_hears h, deliver_refused hv]

/-- A heard command that its owner takes. -/
theorem command_taken {s after : State} (h : hears s = true) {dest : Dest} {take : State → Verdict} {data : List Byte}
    {held : Held} (hv : take s = .taken after data held) :
    command dest take s = .next { after with link := linkAfter dest s .done data held } := by
  rw [command_of_hears h, deliver_taken hv]

/-- An event reaches a powered part (R174, log 16). -/
theorem whenPowered_of_powered {s : State} (h : s.powered = true) (f : State → State) : whenPowered f s = f s := by
  simp [whenPowered, h]

/-- An event does nothing to a part without its supply (R174, log 16). -/
theorem whenPowered_of_unpowered {s : State} (h : s.powered = false) (f : State → State) : whenPowered f s = s := by
  simp [whenPowered, h]

/-- An identifier in range. -/
@[simp] theorem idOf_val {k : Nat} (i : Fin k) : idOf k i.val = some i := by
  simp [idOf]

/-- An identifier out of range. -/
theorem idOf_none {k n : Nat} (h : k ≤ n) : idOf k n = none := by
  simp [idOf, Nat.not_lt.mpr h]

theorem idOf_of_lt {k n : Nat} (h : n < k) : idOf k n = some ⟨n, h⟩ := by
  simp [idOf, h]

end Sys2Proof.Machine
end

