-- ==== Sys2Proof/Laws/Messages.lean ====
section
/-! SUPPORT. The laws of the message formats: what reading a field back gives, and which form each command code takes. -/

namespace Sys2Proof

/-! ### Fields -/

/-- A one-byte field read back (R186). -/
theorem toNat_byte {n : Nat} (h : n < 2 ^ 8) : (BitVec.ofNat 8 n).toNat = n := by
  simp
  omega

/-- A two-byte field read back (R186). -/
theorem be2_bytes {n : Nat} (h : n < 2 ^ 16) : be2 (BitVec.ofNat 8 (n / 256)) (BitVec.ofNat 8 n) = n := by
  simp [be2]
  omega

/-- A three-byte field read back (R186). -/
theorem be3_bytes {n : Nat} (h : n < 2 ^ 24) :
    be3 (BitVec.ofNat 8 (n / 65536)) (BitVec.ofNat 8 (n / 256)) (BitVec.ofNat 8 n) = n := by
  simp [be3]
  omega

/-- A two-byte field is below 65,536. -/
theorem be2_lt (a b : Byte) : be2 a b < 2 ^ 16 := by
  have := a.isLt
  have := b.isLt
  unfold be2
  omega

/-- A three-byte field is below 16,777,216. -/
theorem be3_lt (a b c : Byte) : be3 a b c < 2 ^ 24 := by
  have := a.isLt
  have := b.isLt
  have := c.isLt
  unfold be3
  omega

theorem length_to1 (n : Nat) : (to1 n).length = 1 := rfl
theorem length_to2 (n : Nat) : (to2 n).length = 2 := rfl
theorem length_to3 (n : Nat) : (to3 n).length = 3 := rfl

/-- A record is 14 bytes (12.4). -/
theorem length_encodeRecord (r : EntryRecord) : (encodeRecord r).length = 14 := rfl

/-- Lists of one length, joined, have so many times that length. -/
theorem length_flatten_map {α β : Type} {f : α → List β} {k : Nat} (h : ∀ a, (f a).length = k) (l : List α) :
    (l.map f).flatten.length = k * l.length := by
  induction l with
  | nil => simp
  | cons a rest ih =>
      simp only [List.map_cons, List.flatten_cons, List.length_append, List.length_cons, ih, h]
      rw [Nat.mul_add, Nat.mul_one, Nat.add_comm]

/-! ### The form of each command code (12.3) -/

theorem decodeMessage_enter (d : Dest) (p : List Byte) : decodeMessage d (0x10#8 :: p) = decodeEnter d p := rfl
theorem decodeMessage_amend (d : Dest) (p : List Byte) : decodeMessage d (0x11#8 :: p) = decodeAmend d p := rfl
theorem decodeMessage_suspend (d : Dest) (p : List Byte) :
    decodeMessage d (0x12#8 :: p) = decodeSlot .suspend d p := rfl
theorem decodeMessage_resume (d : Dest) (p : List Byte) : decodeMessage d (0x13#8 :: p) = decodeSlot .resume d p := rfl
theorem decodeMessage_retire (d : Dest) (p : List Byte) : decodeMessage d (0x14#8 :: p) = decodeSlot .retire d p := rfl
theorem decodeMessage_pin (d : Dest) (p : List Byte) : decodeMessage d (0x15#8 :: p) = decodePin d p := rfl
theorem decodeMessage_unpin (d : Dest) (p : List Byte) : decodeMessage d (0x16#8 :: p) = decodeSlot .unpin d p := rfl
theorem decodeMessage_locate (d : Dest) (p : List Byte) : decodeMessage d (0x17#8 :: p) = decodeSlot .locate d p := rfl
theorem decodeMessage_lookup (d : Dest) (p : List Byte) : decodeMessage d (0x18#8 :: p) = decodeSlot .lookup d p := rfl
theorem decodeMessage_find (d : Dest) (p : List Byte) : decodeMessage d (0x19#8 :: p) = decodeBytes .find d p := rfl
theorem decodeMessage_openWindow (d : Dest) (p : List Byte) :
    decodeMessage d (0x1A#8 :: p) = decodeOpenWindow d p := rfl
theorem decodeMessage_writeNext (d : Dest) (p : List Byte) : decodeMessage d (0x1B#8 :: p) = decodeWriteNext d p := rfl
theorem decodeMessage_readNext (d : Dest) (p : List Byte) :
    decodeMessage d (0x1C#8 :: p) = decodeByte .readNext d p := rfl
theorem decodeMessage_readMarks (d : Dest) (p : List Byte) :
    decodeMessage d (0x1D#8 :: p) = decodeNone .readMarks d p := rfl
theorem decodeMessage_clearMarks (d : Dest) (p : List Byte) :
    decodeMessage d (0x1E#8 :: p) = decodeClearMarks d p := rfl
theorem decodeMessage_setChannel (d : Dest) (p : List Byte) :
    decodeMessage d (0x20#8 :: p) = decodeSetChannel d p := rfl
theorem decodeMessage_setScan (d : Dest) (p : List Byte) : decodeMessage d (0x21#8 :: p) = decodeSetScan d p := rfl
theorem decodeMessage_readChannel (d : Dest) (p : List Byte) :
    decodeMessage d (0x22#8 :: p) = decodeByte .readChannel d p := rfl
theorem decodeMessage_setPortal (d : Dest) (p : List Byte) : decodeMessage d (0x30#8 :: p) = decodeSetPortal d p := rfl
theorem decodeMessage_setRole (d : Dest) (p : List Byte) :
    decodeMessage d (0x31#8 :: p) = decodeBytes .setRole d p := rfl
theorem decodeMessage_setManual (d : Dest) (p : List Byte) : decodeMessage d (0x32#8 :: p) = decodeSetManual d p := rfl
theorem decodeMessage_setAuto (d : Dest) (p : List Byte) :
    decodeMessage d (0x33#8 :: p) = decodeByte .setAuto d p := rfl
theorem decodeMessage_readPortal (d : Dest) (p : List Byte) :
    decodeMessage d (0x34#8 :: p) = decodeByte .readPortal d p := rfl
theorem decodeMessage_setStages (d : Dest) (p : List Byte) : decodeMessage d (0x38#8 :: p) = decodeSetStages d p := rfl
theorem decodeMessage_setCompute (d : Dest) (p : List Byte) :
    decodeMessage d (0x40#8 :: p) = decodeSetCompute d p := rfl
theorem decodeMessage_setMaintenance (d : Dest) (p : List Byte) :
    decodeMessage d (0x41#8 :: p) = decodeSetMaintenance d p := rfl
theorem decodeMessage_setCurve (d : Dest) (p : List Byte) : decodeMessage d (0x42#8 :: p) = decodeSetCurve d p := rfl
theorem decodeMessage_readTables (d : Dest) (p : List Byte) :
    decodeMessage d (0x43#8 :: p) = decodeByte .readTables d p := rfl
theorem decodeMessage_force (d : Dest) (p : List Byte) : decodeMessage d (0x50#8 :: p) = decodeMask .force d p := rfl
theorem decodeMessage_unforce (d : Dest) (p : List Byte) :
    decodeMessage d (0x51#8 :: p) = decodeMask .unforce d p := rfl
theorem decodeMessage_limit (d : Dest) (p : List Byte) : decodeMessage d (0x52#8 :: p) = decodeMask .limit d p := rfl
theorem decodeMessage_unlimit (d : Dest) (p : List Byte) :
    decodeMessage d (0x53#8 :: p) = decodeMask .unlimit d p := rfl
theorem decodeMessage_freeze (d : Dest) (p : List Byte) : decodeMessage d (0x54#8 :: p) = decodeMask .freeze d p := rfl
theorem decodeMessage_unfreeze (d : Dest) (p : List Byte) :
    decodeMessage d (0x55#8 :: p) = decodeMask .unfreeze d p := rfl
theorem decodeMessage_setInput (d : Dest) (p : List Byte) : decodeMessage d (0x56#8 :: p) = decodeSetInput d p := rfl
theorem decodeMessage_readInputs (d : Dest) (p : List Byte) :
    decodeMessage d (0x57#8 :: p) = decodeNone .readInputs d p := rfl
theorem decodeMessage_setLines (d : Dest) (p : List Byte) : decodeMessage d (0x60#8 :: p) = decodeSetLines d p := rfl
theorem decodeMessage_readLine (d : Dest) (p : List Byte) :
    decodeMessage d (0x61#8 :: p) = decodeByte .readLine d p := rfl
theorem decodeMessage_setLink (d : Dest) (p : List Byte) :
    decodeMessage d (0x70#8 :: p) = decodeBytes .setLink d p := rfl
theorem decodeMessage_setMask (d : Dest) (p : List Byte) :
    decodeMessage d (0x71#8 :: p) = decodeEventMask .setMask d p := rfl
theorem decodeMessage_clearEvents (d : Dest) (p : List Byte) :
    decodeMessage d (0x72#8 :: p) = decodeEventMask .clearEvents d p := rfl
theorem decodeMessage_readStatus (d : Dest) (p : List Byte) :
    decodeMessage d (0x73#8 :: p) = decodeNone .readStatus d p := rfl
theorem decodeMessage_store (d : Dest) (p : List Byte) : decodeMessage d (0x74#8 :: p) = decodeNone .store d p := rfl
theorem decodeMessage_restart (d : Dest) (p : List Byte) :
    decodeMessage d (0x75#8 :: p) = decodeNone .restart d p := rfl

/-! ### Fields that a message carries fit their widths -/

/-- Every record read from a message fits its fields (12.4). -/
theorem wf_of_mem_decodeRecords {bytes : List Byte} {records : List EntryRecord} (h : decodeRecords bytes = some records)
    {r : EntryRecord} (hr : r ∈ records) : r.wf = true := by
  induction bytes using decodeRecords.induct generalizing records with
  | case1 =>
      cases h
      cases hr
  | case2 b b1 b2 b3 b4 b5 b6 b7 b8 b9 b10 b11 b12 b13 rest ih =>
      simp only [decodeRecords, Option.map_eq_some_iff] at h
      obtain ⟨tail, htail, rfl⟩ := h
      rcases List.mem_cons.mp hr with rfl | hr
      · simp only [EntryRecord.wf, decodeRecord, Bool.and_eq_true, decide_eq_true_eq]
        exact ⟨be2_lt _ _, be2_lt _ _⟩
      · exact ih htail hr
  | case3 bytes h1 h2 =>
      rw [decodeRecords] at h
      · cases h
      · exact h1
      · exact h2

/-- Every row read from a message has a threshold and a factor of two bytes each (R96). -/
theorem fits_of_mem_decodeRows {bytes : List Byte} {rows : List (Nat × Nat)} (h : decodeRows bytes = some rows)
    {r : Nat × Nat} (hr : r ∈ rows) : r.1 < 2 ^ 16 ∧ r.2 < 2 ^ 16 := by
  induction bytes using decodeRows.induct generalizing rows with
  | case1 =>
      cases h
      cases hr
  | case2 t1 t0 f1 f0 rest ih =>
      simp only [decodeRows, Option.map_eq_some_iff] at h
      obtain ⟨tail, htail, rfl⟩ := h
      rcases List.mem_cons.mp hr with rfl | hr
      · exact ⟨be2_lt _ _, be2_lt _ _⟩
      · exact ih htail hr
  | case3 bytes h1 h2 =>
      rw [decodeRows] at h
      · cases h
      · exact h1
      · exact h2

end Sys2Proof
end

