-- ==== Sys2Proof/Laws/Pair.lean ====
section
/-! SUPPORT. What goes out on the pair and on a drive line: the characters of a response, and the read-back of a frame. -/

namespace Sys2Proof.Machine

open Sys2Proof

/-- A character is 11 bits (R157). -/
@[simp] theorem length_sentCharacter (markBit : Bool) (value : Byte) : (sentCharacter markBit value).length = 11 := rfl

/-- A response is its address character and its data characters, 11 bits each (R165). -/
theorem length_sentBits (r : Response) : (sentBits r).length = 11 * (r.body.length + 1) := by
  have body (l : List Byte) : ((l.map (sentCharacter false)).flatten).length = 11 * l.length := by
    induction l with
    | nil => rfl
    | cons a rest ih =>
        rw [List.map_cons, List.flatten_cons, List.length_append, ih, length_sentCharacter, List.length_cons]
        omega
  rw [sentBits, List.length_append, length_sentCharacter, body]
  omega

/-- Some level read back differs from the level driven in its half-bit. -/
theorem readBackDiffers_iff (frame : BitVec 24) (levels : List Bool) :
    readBackDiffers frame levels = true ↔ ∃ half level, levels[half]? = some level ∧ level ≠ levelDriven frame half := by
  rw [readBackDiffers, List.any_eq_true]
  constructor
  · rintro ⟨⟨level, half⟩, hm, h⟩
    exact ⟨half, level, List.mem_zipIdx_iff_getElem?.mp hm, of_decide_eq_true h⟩
  · rintro ⟨half, level, hm, h⟩
    exact ⟨(level, half), List.mem_zipIdx_iff_getElem?.mpr hm, decide_eq_true h⟩

end Sys2Proof.Machine
end

