-- ==== Sys2Proof/Laws/PerInstr.lean ====
section
/-! SUPPORT. Statements made command by command. -/

namespace Sys2Proof.Laws.MessageFits

open Sys2Proof

/-- The message of a well-formed command has at least its code and, with its check, a length of at most 250 (8.3, R186); only the
six override commands, at codes 0x50 to 0x55, can be addressed to station 0 (R168). An event has no message. -/
def Statement (c : Instr) : Prop :=
  c.wf = true → ∀ dest content, encodeMessage c = some (dest, content) →
    1 ≤ content.length ∧ content.length ≤ 249 ∧ (dest = .broadcast → content.head?.any broadcastCode = true)

/-- The proof for an event: it has no message. -/
theorem of_event {c : Instr} (h : encodeMessage c = none) : Statement c := by
  intro _ dest content he
  rw [h] at he
  contradiction

/-- The proof for a command to the station alone, from its content's length. -/
theorem of_station {c : Instr} {content : List Byte} (h : encodeMessage c = some (.station, content))
    (hl : c.wf = true → 1 ≤ content.length ∧ content.length ≤ 249) : Statement c := by
  intro hw dest content' he
  rw [h] at he
  cases he
  exact ⟨(hl hw).1, (hl hw).2, by intro hd; cases hd⟩

/-- The proof for a command to the station alone whose message has one length. -/
theorem of_fixed {c : Instr} {content : List Byte} (n : Nat) (h : encodeMessage c = some (.station, content))
    (hl : content.length = n) (hn : 1 ≤ n ∧ n ≤ 249) : Statement c :=
  of_station h fun _ => by rw [hl]; exact hn

/-- The proof for an override command, from its code. -/
theorem of_override {c : Instr} {dest : Dest} {code mask : Byte} (h : encodeMessage c = some (dest, [code, mask]))
    (hc : broadcastCode code = true) : Statement c := by
  intro _ dest' content he
  rw [h] at he
  cases he
  exact ⟨by simp, by simp, by intro _; simpa using hc⟩

theorem fullReset : Statement (.fullReset) :=
  of_event rfl
theorem enter (slot line address portal stage cls q age pin : Nat) :
    Statement (.enter slot line address portal stage cls q age pin) :=
  of_fixed 14 rfl rfl (by decide)
theorem amend (slot : Nat) (present : BitVec 8) (portal stage cls q age line address : Nat) :
    Statement (.amend slot present portal stage cls q age line address) :=
  of_fixed 13 rfl rfl (by decide)
theorem suspend (slot : Nat) : Statement (.suspend slot) :=
  of_fixed 3 rfl rfl (by decide)
theorem resume (slot : Nat) : Statement (.resume slot) :=
  of_fixed 3 rfl rfl (by decide)
theorem retire (slot : Nat) : Statement (.retire slot) :=
  of_fixed 3 rfl rfl (by decide)
theorem pin (slot code : Nat) : Statement (.pin slot code) :=
  of_fixed 5 rfl rfl (by decide)
theorem unpin (slot : Nat) : Statement (.unpin slot) :=
  of_fixed 3 rfl rfl (by decide)
theorem locate (slot : Nat) : Statement (.locate slot) :=
  of_fixed 3 rfl rfl (by decide)
theorem lookup (slot : Nat) : Statement (.lookup slot) :=
  of_fixed 3 rfl rfl (by decide)
theorem find (line address : Nat) : Statement (.find line address) :=
  of_fixed 3 rfl rfl (by decide)
theorem openWindow (first last direction : Nat) : Statement (.openWindow first last direction) :=
  of_fixed 6 rfl rfl (by decide)
theorem writeNext (records : List EntryRecord) : Statement (.writeNext records) :=
  of_station rfl fun h => by
    simp only [Instr.wf, Bool.and_eq_true, decide_eq_true_eq] at h
    rw [List.length_cons, length_flatten_map length_encodeRecord]
    omega
theorem readNext (count : Nat) : Statement (.readNext count) :=
  of_fixed 2 rfl rfl (by decide)
theorem readMarks : Statement (.readMarks) :=
  of_fixed 1 rfl rfl (by decide)
theorem clearMarks (mask : BitVec 32) : Statement (.clearMarks mask) :=
  of_fixed 5 rfl rfl (by decide)
theorem ageTickExpiry : Statement (.ageTickExpiry) :=
  of_event rfl
theorem setChannel (channel offset gain low high : Nat) : Statement (.setChannel channel offset gain low high) :=
  of_fixed 12 rfl rfl (by decide)
theorem setScan (positions : List Nat) (interval : Nat) : Statement (.setScan positions interval) :=
  of_station rfl fun h => by
    simp only [Instr.wf, Bool.and_eq_true, decide_eq_true_eq] at h
    simp only [List.cons_append, List.length_cons, List.length_append, length_flatten_map length_to1, length_to2]
    omega
theorem readChannel (channel : Nat) : Statement (.readChannel channel) :=
  of_fixed 2 rfl rfl (by decide)
theorem scanTimerExpiry : Statement (.scanTimerExpiry) :=
  of_event rfl
theorem conversionComplete (raw : Nat) : Statement (.conversionComplete raw) :=
  of_event rfl
theorem setPortal (portal : Nat) (fields : PortalFields) : Statement (.setPortal portal fields) :=
  of_station rfl fun _ => by
    simp only [List.cons_append, List.length_cons, List.length_append, length_to1, length_to2, length_to3]
    omega
theorem setRole (portal role : Nat) : Statement (.setRole portal role) :=
  of_fixed 3 rfl rfl (by decide)
theorem setManual (portal luminance : Nat) : Statement (.setManual portal luminance) :=
  of_fixed 5 rfl rfl (by decide)
theorem setAuto (portal : Nat) : Statement (.setAuto portal) :=
  of_fixed 2 rfl rfl (by decide)
theorem readPortal (portal : Nat) : Statement (.readPortal portal) :=
  of_fixed 2 rfl rfl (by decide)
theorem updateTimerExpiry (portal : Fin 4) : Statement (.updateTimerExpiry portal) :=
  of_event rfl
theorem setStages (portal count : Nat) (pairs : List (Nat × Nat)) : Statement (.setStages portal count pairs) :=
  of_station rfl fun h => by
    simp only [Instr.wf, Bool.and_eq_true, decide_eq_true_eq] at h
    have : ∀ p : Nat × Nat, (to2 p.1 ++ to3 p.2).length = 5 := fun _ => rfl
    simp only [List.cons_append, List.length_cons, List.length_append, length_flatten_map this, length_to1]
    omega
theorem setCompute (mode thermal ceiling : Nat) : Statement (.setCompute mode thermal ceiling) :=
  of_fixed 6 rfl rfl (by decide)
theorem setMaintenance (count : Nat) (rows : List (Nat × Nat)) : Statement (.setMaintenance count rows) :=
  of_station rfl fun h => by
    simp only [Instr.wf, Bool.and_eq_true, decide_eq_true_eq] at h
    have : ∀ r : Nat × Nat, (to2 r.1 ++ to2 r.2).length = 4 := fun _ => rfl
    simp only [List.cons_append, List.length_cons, List.length_append, length_flatten_map this, length_to1]
    omega
theorem setCurve (cls : Nat) (points : List Nat) : Statement (.setCurve cls points) :=
  of_station rfl fun h => by
    simp only [Instr.wf, Bool.and_eq_true, decide_eq_true_eq] at h
    simp only [List.cons_append, List.length_cons, List.length_append, length_flatten_map length_to2, length_to1]
    omega
theorem readTables (cls : Nat) : Statement (.readTables cls) :=
  of_fixed 2 rfl rfl (by decide)
theorem inputLevelChange (input : Fin 6) (level : InputLevel) : Statement (.inputLevelChange input level) :=
  of_event rfl
theorem debounceExpiry (input : Fin 6) : Statement (.debounceExpiry input) :=
  of_event rfl
theorem force (dest : Dest) (mask : BitVec 8) : Statement (.force dest mask) :=
  of_override rfl rfl
theorem unforce (dest : Dest) (mask : BitVec 8) : Statement (.unforce dest mask) :=
  of_override rfl rfl
theorem limit (dest : Dest) (mask : BitVec 8) : Statement (.limit dest mask) :=
  of_override rfl rfl
theorem unlimit (dest : Dest) (mask : BitVec 8) : Statement (.unlimit dest mask) :=
  of_override rfl rfl
theorem freeze (dest : Dest) (mask : BitVec 8) : Statement (.freeze dest mask) :=
  of_override rfl rfl
theorem unfreeze (dest : Dest) (mask : BitVec 8) : Statement (.unfreeze dest mask) :=
  of_override rfl rfl
theorem setInput (input function : Nat) (mask : BitVec 8) (sense polarity : Nat) :
    Statement (.setInput input function mask sense polarity) :=
  of_fixed 6 rfl rfl (by decide)
theorem readInputs : Statement (.readInputs) :=
  of_fixed 1 rfl rfl (by decide)
theorem forwardFrameEnd (line : Fin 4) : Statement (.forwardFrameEnd line) :=
  of_event rfl
theorem contention (line : Fin 4) : Statement (.contention line) :=
  of_event rfl
theorem replyOutcome (line : Fin 4) (received : Option BackwardSignal) : Statement (.replyOutcome line received) :=
  of_event rfl
theorem transactionEnd (line : Fin 4) : Statement (.transactionEnd line) :=
  of_event rfl
theorem faultWaitExpiry (line : Fin 4) : Statement (.faultWaitExpiry line) :=
  of_event rfl
theorem probeEnd (line : Fin 4) : Statement (.probeEnd line) :=
  of_event rfl
theorem setLines (enables : BitVec 8) (missLimit : Nat) : Statement (.setLines enables missLimit) :=
  of_fixed 3 rfl rfl (by decide)
theorem readLine (line : Nat) : Statement (.readLine line) :=
  of_fixed 2 rfl rfl (by decide)
theorem addressCharacter (value : Byte) : Statement (.addressCharacter value) :=
  of_event rfl
theorem dataCharacter (value : Byte) : Statement (.dataCharacter value) :=
  of_event rfl
theorem gapTimerExpiry : Statement (.gapTimerExpiry) :=
  of_event rfl
theorem responseStart : Statement (.responseStart) :=
  of_event rfl
theorem responseEnd : Statement (.responseEnd) :=
  of_event rfl
theorem setLink (station baud : Nat) : Statement (.setLink station baud) :=
  of_fixed 3 rfl rfl (by decide)
theorem setMask (mask : BitVec 48) : Statement (.setMask mask) :=
  of_fixed 7 rfl rfl (by decide)
theorem clearEvents (mask : BitVec 48) : Statement (.clearEvents mask) :=
  of_fixed 7 rfl rfl (by decide)
theorem readStatus : Statement (.readStatus) :=
  of_fixed 1 rfl rfl (by decide)
theorem store : Statement (.store) :=
  of_fixed 1 rfl rfl (by decide)
theorem storeWriteComplete (good : Bool) : Statement (.storeWriteComplete good) :=
  of_event rfl
theorem restart : Statement (.restart) :=
  of_fixed 1 rfl rfl (by decide)
theorem spoiledCharacter : Statement (.spoiledCharacter) :=
  of_event rfl
theorem backwardFrameStart (line : Fin 4) (micros : Nat) : Statement (.backwardFrameStart line micros) :=
  of_event rfl
theorem powerLoss : Statement (.powerLoss) :=
  of_event rfl

end Sys2Proof.Laws.MessageFits
end

