-- ==== Sys2Proof/Laws/Table.lean ====
section
/-! SUPPORT. The laws of the fixed-size tables: what reading gives after each way of building one. -/

namespace Sys2Proof.Tbl

variable {α β : Type} {n : Nat}

/-- Tables with equal records are equal. -/
theorem ext_get {t u : Tbl α n} (h : ∀ i, t.get i = u.get i) : t = u := by
  obtain ⟨a, ha⟩ := t
  obtain ⟨b, hb⟩ := u
  have : a = b := List.ext_getElem (by omega) fun i h₁ _ => h ⟨i, by omega⟩
  subst this
  rfl

@[simp] theorem get_set_self (t : Tbl α n) (i : Fin n) (a : α) : (t.set i a).get i = a := by
  simp [get, set]

theorem get_set (t : Tbl α n) (i j : Fin n) (a : α) : (t.set i a).get j = if i = j then a else t.get j := by
  simp [get, set, List.getElem_set, Fin.ext_iff]

theorem get_set_other (t : Tbl α n) {i j : Fin n} (h : i ≠ j) (a : α) : (t.set i a).get j = t.get j := by
  simp [get_set, h]

@[simp] theorem set_get_self (t : Tbl α n) (i : Fin n) : t.set i (t.get i) = t :=
  ext_get fun j => by rw [get_set]; split <;> simp_all

theorem get_modify (t : Tbl α n) (i j : Fin n) (f : α → α) :
    (t.modify i f).get j = if i = j then f (t.get j) else t.get j := by
  unfold modify
  rw [get_set]
  split <;> simp_all

@[simp] theorem get_modify_self (t : Tbl α n) (i : Fin n) (f : α → α) : (t.modify i f).get i = f (t.get i) := by
  simp [get_modify]

theorem get_modify_other (t : Tbl α n) {i j : Fin n} (h : i ≠ j) (f : α → α) : (t.modify i f).get j = t.get j := by
  simp [get_modify, h]

@[simp] theorem modify_modify (t : Tbl α n) (i : Fin n) (f g : α → α) :
    (t.modify i f).modify i g = t.modify i (g ∘ f) :=
  ext_get fun j => by simp only [get_modify]; split <;> simp

@[simp] theorem get_map (t : Tbl α n) (f : α → β) (i : Fin n) : (t.map f).get i = f (t.get i) := by
  simp [get, map]

@[simp] theorem get_mapIdx (t : Tbl α n) (f : Fin n → α → β) (i : Fin n) : (t.mapIdx f).get i = f i (t.get i) := by
  simp [get, mapIdx]

@[simp] theorem get_fill (a : α) (i : Fin n) : (fill n a).get i = a := by
  simp [get, fill]

@[simp] theorem get_tabulate (f : Fin n → α) (i : Fin n) : (tabulate f).get i = f i := by
  simp [get, tabulate]

/-- The records with their positions are those that reading gives. -/
theorem mem_indexed {t : Tbl α n} {i : Fin n} {a : α} : (i, a) ∈ t.indexed ↔ t.get i = a := by
  simp only [indexed, List.mem_iff_getElem, List.getElem_zip, List.getElem_finRange, List.length_zip,
    List.length_finRange, get, Prod.mk.injEq]
  constructor
  · rintro ⟨k, hk, hi, ha⟩
    subst hi
    exact ha
  · intro h
    exact ⟨i.val, by have := t.size; have := i.isLt; omega, rfl, h⟩

theorem mem_cells {t : Tbl α n} {a : α} : a ∈ t.cells ↔ ∃ i, t.get i = a := by
  constructor
  · intro h
    obtain ⟨k, hk, ha⟩ := List.mem_iff_getElem.mp h
    exact ⟨⟨k, by have := t.size; omega⟩, ha⟩
  · rintro ⟨i, h⟩
    rw [← h]
    exact List.getElem_mem _

end Sys2Proof.Tbl
end

