-- ==== Sys2Proof/Tests/Slice0.lean ====
section
/-! SUPPORT. Tests: the WellFormed smoke, message bytes written out from chapter 12, the spec's worked examples, and for
each statement with hypotheses a state and operands that meet them. Expected results come from the section each test
names. -/

namespace Sys2Proof.Tests

open Sys2Proof Sys2Proof.Machine

-- The theorems are checked one after another, so that the file takes few threads.
set_option Elab.async false

/-! ### WellFormed (R186, 12.3, 2.2) -/

/-- Every field at the top of its width (R186), part 1. -/
theorem test_wf_accepts_1 : ([
    .enter 65535 255 255 255 255 255 65535 65535 65535, .suspend 65535, .resume 65535, .retire 65535, .pin 65535 65535,
    .unpin 65535, .locate 65535, .lookup 65535, .find 255 255, .openWindow 65535 65535 255, .readNext 255,
    .setChannel 255 65535 65535 16777215 16777215, .readChannel 255, .setRole 255 255] : List Instr).all Instr.wf = true := by decide

/-- Every field at the top of its width (R186), part 2. -/
theorem test_wf_accepts_2 : ([
    .setManual 255 16777215, .setAuto 255, .readPortal 255, .setCompute 255 65535 65535, .readTables 255, .readLine 255,
    .setLink 255 255, .amend 65535 0#8 255 255 255 65535 65535 255 255, .setInput 255 255 0#8 255 255, .setLines 0#8 255,
    .conversionComplete 4095,
    .setPortal 255 ⟨255, 255, 255, 16777215, 16777215, 16777215, 65535, 65535, 65535, 255, 255, 255, 255, 255, 65535, 65535, 65535⟩,
    .writeNext (List.replicate 16 ⟨1, 0, 0, 0, 0, 0, 65535, 65535, none⟩), .writeNext [⟨1, 0, 0, 0, 0, 0, 0, 0, none⟩]] : List Instr).all Instr.wf = true := by decide

/-- Every field at the top of its width (R186), part 3. -/
theorem test_wf_accepts_3 : ([
    .setScan (List.replicate 8 255) 65535, .setStages 255 0 [], .setStages 0 49 (List.replicate 49 (65535, 16777215)),
    .setMaintenance 61 (List.replicate 61 (65535, 65535)), .setCurve 255 (List.replicate 17 65535)] : List Instr).all Instr.wf = true := by decide

/-- One field or one length past its bound, one check a term, part 1. -/
theorem test_wf_refuses_1 : ([
    .enter 65536 255 255 255 255 255 65535 65535 65535, .enter 65535 256 255 255 255 255 65535 65535 65535,
    .enter 65535 255 256 255 255 255 65535 65535 65535, .enter 65535 255 255 256 255 255 65535 65535 65535,
    .enter 65535 255 255 255 256 255 65535 65535 65535, .enter 65535 255 255 255 255 256 65535 65535 65535,
    .enter 65535 255 255 255 255 255 65536 65535 65535, .enter 65535 255 255 255 255 255 65535 65536 65535,
    .enter 65535 255 255 255 255 255 65535 65535 65536, .suspend 65536, .resume 65536, .retire 65536, .pin 65536 65535,
    .pin 65535 65536, .unpin 65536, .locate 65536, .lookup 65536, .find 256 255, .find 255 256,
    .openWindow 65536 65535 255, .openWindow 65535 65536 255, .openWindow 65535 65535 256, .readNext 256,
    .setChannel 256 65535 65535 16777215 16777215] : List Instr).all (fun c => !c.wf) = true := by decide

/-- One field or one length past its bound, one check a term, part 2. -/
theorem test_wf_refuses_2 : ([
    .setChannel 255 65536 65535 16777215 16777215, .setChannel 255 65535 65536 16777215 16777215,
    .setChannel 255 65535 65535 16777216 16777215, .setChannel 255 65535 65535 16777215 16777216, .readChannel 256,
    .setRole 256 255, .setRole 255 256, .setManual 256 16777215, .setManual 255 16777216, .setAuto 256, .readPortal 256,
    .setCompute 256 65535 65535, .setCompute 255 65536 65535, .setCompute 255 65535 65536, .readTables 256,
    .readLine 256, .setLink 256 255, .setLink 255 256, .amend 65536 0#8 255 255 255 65535 65535 255 255,
    .amend 65535 0#8 256 255 255 65535 65535 255 255, .amend 65535 0#8 255 256 255 65535 65535 255 255,
    .amend 65535 0#8 255 255 256 65535 65535 255 255, .amend 65535 0#8 255 255 255 65536 65535 255 255,
    .amend 65535 0#8 255 255 255 65535 65536 255 255] : List Instr).all (fun c => !c.wf) = true := by decide

/-- One field or one length past its bound, one check a term, part 3. -/
theorem test_wf_refuses_3 : ([
    .amend 65535 0#8 255 255 255 65535 65535 256 255, .amend 65535 0#8 255 255 255 65535 65535 255 256,
    .setInput 256 255 0#8 255 255, .setInput 255 256 0#8 255 255, .setInput 255 255 0#8 256 255,
    .setInput 255 255 0#8 255 256, .setLines 0#8 256, .conversionComplete 4096,
    .setPortal 256 ⟨255, 255, 255, 16777215, 16777215, 16777215, 65535, 65535, 65535, 255, 255, 255, 255, 255, 65535, 65535, 65535⟩,
    .setPortal 255 ⟨256, 255, 255, 16777215, 16777215, 16777215, 65535, 65535, 65535, 255, 255, 255, 255, 255, 65535, 65535, 65535⟩,
    .setPortal 255 ⟨255, 256, 255, 16777215, 16777215, 16777215, 65535, 65535, 65535, 255, 255, 255, 255, 255, 65535, 65535, 65535⟩,
    .setPortal 255 ⟨255, 255, 256, 16777215, 16777215, 16777215, 65535, 65535, 65535, 255, 255, 255, 255, 255, 65535, 65535, 65535⟩,
    .setPortal 255 ⟨255, 255, 255, 16777216, 16777215, 16777215, 65535, 65535, 65535, 255, 255, 255, 255, 255, 65535, 65535, 65535⟩,
    .setPortal 255 ⟨255, 255, 255, 16777215, 16777216, 16777215, 65535, 65535, 65535, 255, 255, 255, 255, 255, 65535, 65535, 65535⟩,
    .setPortal 255 ⟨255, 255, 255, 16777215, 16777215, 16777216, 65535, 65535, 65535, 255, 255, 255, 255, 255, 65535, 65535, 65535⟩,
    .setPortal 255 ⟨255, 255, 255, 16777215, 16777215, 16777215, 65536, 65535, 65535, 255, 255, 255, 255, 255, 65535, 65535, 65535⟩,
    .setPortal 255 ⟨255, 255, 255, 16777215, 16777215, 16777215, 65535, 65536, 65535, 255, 255, 255, 255, 255, 65535, 65535, 65535⟩,
    .setPortal 255 ⟨255, 255, 255, 16777215, 16777215, 16777215, 65535, 65535, 65536, 255, 255, 255, 255, 255, 65535, 65535, 65535⟩,
    .setPortal 255 ⟨255, 255, 255, 16777215, 16777215, 16777215, 65535, 65535, 65535, 256, 255, 255, 255, 255, 65535, 65535, 65535⟩,
    .setPortal 255 ⟨255, 255, 255, 16777215, 16777215, 16777215, 65535, 65535, 65535, 255, 256, 255, 255, 255, 65535, 65535, 65535⟩,
    .setPortal 255 ⟨255, 255, 255, 16777215, 16777215, 16777215, 65535, 65535, 65535, 255, 255, 256, 255, 255, 65535, 65535, 65535⟩,
    .setPortal 255 ⟨255, 255, 255, 16777215, 16777215, 16777215, 65535, 65535, 65535, 255, 255, 255, 256, 255, 65535, 65535, 65535⟩,
    .setPortal 255 ⟨255, 255, 255, 16777215, 16777215, 16777215, 65535, 65535, 65535, 255, 255, 255, 255, 256, 65535, 65535, 65535⟩,
    .setPortal 255 ⟨255, 255, 255, 16777215, 16777215, 16777215, 65535, 65535, 65535, 255, 255, 255, 255, 255, 65536, 65535, 65535⟩] : List Instr).all (fun c => !c.wf) = true := by decide

/-- One field or one length past its bound, one check a term, part 4. -/
theorem test_wf_refuses_4 : ([

    .setPortal 255 ⟨255, 255, 255, 16777215, 16777215, 16777215, 65535, 65535, 65535, 255, 255, 255, 255, 255, 65535, 65536, 65535⟩,
    .setPortal 255 ⟨255, 255, 255, 16777215, 16777215, 16777215, 65535, 65535, 65535, 255, 255, 255, 255, 255, 65535, 65535, 65536⟩,
    .writeNext [], .writeNext (List.replicate 17 ⟨1, 0, 0, 0, 0, 0, 1, 1, none⟩),
    .writeNext [⟨1, 0, 0, 0, 0, 0, 65536, 0, none⟩], .writeNext [⟨1, 0, 0, 0, 0, 0, 1, 65536, none⟩],
    .setScan (List.replicate 7 0) 500, .setScan (List.replicate 9 0) 500, .setScan (256 :: (List.replicate 7 0)) 500,
    .setScan (List.replicate 8 0) 65536, .setStages 256 0 [], .setStages 0 1 [],
    .setStages 0 50 (List.replicate 50 (0, 0)), .setStages 0 1 [(65536, 0)], .setStages 0 1 [(0, 16777216)],
    .setMaintenance 1 [], .setMaintenance 62 (List.replicate 62 (0, 0)), .setMaintenance 1 [(65536, 0)],
    .setMaintenance 1 [(0, 65536)], .setCurve 256 (List.replicate 17 0), .setCurve 0 (List.replicate 16 0),
    .setCurve 0 (List.replicate 18 0), .setCurve 0 (65536 :: (List.replicate 16 0))] : List Instr).all (fun c => !c.wf) = true := by decide

/-! ### Messages (12.3), written out byte by byte -/

/-- ENTER of slot 0xFFFF: line 1, address 40, portal 1, stage 0, class 1, q 450, age 1,200, no pin. -/
theorem test_message_enter :
    decodeMessage .station [0x10#8, 0xFF#8, 0xFF#8, 1#8, 40#8, 1#8, 0#8, 1#8, 0x01#8, 0xC2#8, 0x04#8, 0xB0#8, 0xFF#8, 0xFF#8] =
      some (.enter 0xFFFF 1 40 1 0 1 450 1200 0xFFFF) := by decide

/-- AMEND of slot 40 to line 2, address 41: positions 5 and 6 of the presence mask. -/
theorem test_message_amend :
    decodeMessage .station [0x11#8, 0#8, 40#8, 0x60#8, 0#8, 0#8, 0#8, 0#8, 0#8, 0#8, 0#8, 2#8, 41#8] =
      some (.amend 40 0x60#8 0 0 0 0 0 2 41) := by decide

/-- RETIRE of slot 5, and the same message one character short. -/
theorem test_message_retire :
    decodeMessage .station [0x14#8, 0#8, 5#8] = some (.retire 5) ∧ decodeMessage .station [0x14#8, 0#8] = none := by decide

/-- PIN of slot 44 at 300. -/
theorem test_message_pin : decodeMessage .station [0x15#8, 0#8, 44#8, 0x01#8, 0x2C#8] = some (.pin 44 300) := by decide

/-- An entry record (12.4): state 1, address 40 with line 1, class 1 with stage 2 and portal 3, q 450, age 1,200, pin 300. -/
theorem test_message_write_next :
    decodeMessage .station [0x1B#8, 0#8, 0x01#8, 0x68#8, 0x69#8, 0x01#8, 0xC2#8, 0x04#8, 0xB0#8, 0x81#8, 0x2C#8, 0#8, 0#8,
      0#8, 0#8] = some (.writeNext [⟨1, 1, 40, 3, 2, 1, 450, 1200, some 300⟩]) := by decide

/-- OPEN_WINDOW over every slot, for WRITE; and CLEAR_MARKS of the blocks 0 and 31. -/
theorem test_message_window_and_marks :
    decodeMessage .station [0x1A#8, 0#8, 0#8, 0#8, 0xFF#8, 1#8] = some (.openWindow 0 255 1) ∧
      decodeMessage .station [0x1E#8, 0x01#8, 0#8, 0#8, 0x80#8] = some (.clearMarks 0x80000001#32) := by decide

/-- SET_CHANNEL of CH2: offset 40, gain 3,000, limits 0 and 99,999. -/
theorem test_message_set_channel :
    decodeMessage .station [0x20#8, 2#8, 0#8, 40#8, 0x0B#8, 0xB8#8, 0#8, 0#8, 0#8, 0x01#8, 0x86#8, 0x9F#8] =
      some (.setChannel 2 40 3000 0 99999) := by decide

/-- SET_SCAN with position 7 DISABLED, every 500 ms. -/
theorem test_message_set_scan :
    decodeMessage .station [0x21#8, 0#8, 1#8, 2#8, 3#8, 4#8, 5#8, 6#8, 0xFF#8, 0x01#8, 0xF4#8] =
      some (.setScan [0, 1, 2, 3, 4, 5, 6, 0xFF] 500) := by decide

/-- SET_MANUAL of P1 at 3,000, and SET_STAGES of P1 with one stage. -/
theorem test_message_portals :
    decodeMessage .station [0x32#8, 1#8, 0#8, 0x0B#8, 0xB8#8] = some (.setManual 1 3000) ∧
      decodeMessage .station [0x38#8, 1#8, 1#8, 0x03#8, 0xE8#8, 0#8, 0#8, 60#8] = some (.setStages 1 1 [(1000, 60)]) := by
  decide

/-- SET_COMPUTE with the defaults, and SET_MAINTENANCE with the one default row. -/
theorem test_message_tables :
    decodeMessage .station [0x40#8, 0#8, 0x02#8, 0xBC#8, 0x17#8, 0x70#8] = some (.setCompute 0 700 6000) ∧
      decodeMessage .station [0x41#8, 1#8, 0#8, 0#8, 0x03#8, 0xE8#8] = some (.setMaintenance 1 [(0, 1000)]) := by decide

/-- A broadcast FORCE for P1 and P2, and SET_INPUT of IN1 as in 6.5. -/
theorem test_message_overrides :
    decodeMessage .broadcast [0x50#8, 0x06#8] = some (.force .broadcast 0x06#8) ∧
      decodeMessage .station [0x56#8, 1#8, 1#8, 0x06#8, 1#8, 1#8] = some (.setInput 1 1 0x06#8 1 1) := by decide

/-- SET_LINES, SET_LINK, SET_MASK of the positions 0 and 47, and STORE. -/
theorem test_message_lines_link_events :
    decodeMessage .station [0x60#8, 0x0F#8, 3#8] = some (.setLines 0x0F#8 3) ∧
      decodeMessage .station [0x70#8, 12#8, 1#8] = some (.setLink 12 1) ∧
      decodeMessage .station [0x71#8, 0x01#8, 0#8, 0#8, 0#8, 0#8, 0x80#8] = some (.setMask 0x800000000001#48) ∧
      decodeMessage .station [0x74#8] = some .store := by decide

/-- A code that the table of 12.3 does not hold. -/
theorem test_message_unknown : decodeMessage .station [0x1F#8] = none := by decide

/-- The table of operations gives its rows no bits: a word spells no command. -/
theorem test_no_table_word : decodeTableWord 32 0x10 = none := rfl

/-! ### The wire (12.5, 8.1) -/

/-- LEVEL 1,023 to address 40: start, 0101000, 001, ten 1s, spare, and parity over thirteen 1s. -/
theorem test_forward_frame_level :
    frameOf (.level 1023) (some (3, 40)) = 0b1_0101000_001_1111111111_00_1#24 := by decide +kernel

/-- The probe: all-call 127, STATUS, argument 0; eight 1s. -/
theorem test_forward_frame_probe : frameOf .probe none = 0b1_1111111_010_0000000000_00_0#24 := by decide +kernel

/-- A LEVEL_ACK with level 1,023 and no flag, its cells' second halves as the bits. -/
def ack1023 : BackwardSignal := ⟨~~~0b1_01_000_1111111111_1#17, 0b1_01_000_1111111111_1#17, true⟩

theorem test_reply_valid : decodeReply (.level 1023) ack1023 = some (⟨false, false, false⟩, 1023) := by decide

/-- The wrong kind, a stop that is not high, a bad parity cell and a cell with no change: each GARBLED (R130, R188). -/
theorem test_reply_garbled :
    decodeReply .status ack1023 = none ∧ decodeReply (.level 1023) { ack1023 with stopHigh := false } = none ∧
      decodeReply (.level 1023) ⟨~~~0b1_01_000_1111111111_0#17, 0b1_01_000_1111111111_0#17, true⟩ = none ∧
      decodeReply (.level 1023) { ack1023 with firstHalf := 0#17 } = none := by decide

/-- A bit's samples: 1, 0 and one that disagrees. -/
def one : Samples := ⟨true, true, true⟩
def zero : Samples := ⟨false, false, false⟩
def noisy : Samples := ⟨true, true, false⟩

/-- Address character 12: data bits 0011 0000 least significant first, mark bit 1 (8.1, R157). -/
theorem test_character_address :
    characterEvent zero ⟨[zero, zero, one, one, zero, zero, zero, zero], rfl⟩ one one = some (.addressCharacter 12#8) := by
  decide

/-- A noise detection or a stop bit of 0 spoils a character; a start bit taken as 1 is no character (R157). -/
theorem test_character_spoiled :
    characterEvent zero ⟨[noisy, zero, one, one, zero, zero, zero, zero], rfl⟩ zero one = some .spoiledCharacter ∧
      characterEvent zero (Tbl.fill 8 zero) zero zero = some .spoiledCharacter ∧
      characterEvent one (Tbl.fill 8 zero) zero one = none := by decide

/-- R157: the 11 bits of the address character 159, and of a data character 12, by hand: start 0, data least significant first, mark, stop
1. -/
theorem test_sent_characters :
    sentCharacter true 0x9F#8 = [false, true, true, true, true, true, false, false, true, true, true] ∧
      sentCharacter false 12#8 = [false, false, false, true, true, false, false, false, false, false, true] := by decide

/-- R166: a response of four data characters goes out as five characters of 11 bits, and nothing is sent before it begins. -/
theorem test_pair_driven :
    let response := responseOf 31 .done [0#8]
    let sending := { State.reset with link := ⟨.sending response .nothing, .idle⟩ }
    (pairDriven sending).length = 55 ∧ (pairDriven sending).take 11 = sentCharacter true 0x9F#8 ∧
      pairDriven State.reset = [] := by decide

/-- 12.5: a level frame's halves, by hand: the start cell goes from low to high, the first target cell, a 0, from high to low. -/
theorem test_levels_driven :
    let frame := frameOf (.level 1023) (some (3, 40))
    (List.range 6).map (levelDriven frame) = [false, true, true, false, false, true] ∧ levelDriven frame 47 = true ∧
      levelDriven frame 48 = true := by decide +kernel

/-- R146: a difference in a half-bit, or in the stop, is a contention; none through the stop ends the frame. -/
theorem test_read_back :
    let frame := frameOf (.level 1023) (some (3, 40))
    let sending := { LineUnit.initial with driving := some frame }
    let levels := (List.range 57).map (levelDriven frame)
    readBackEvent 1 sending levels true = some (.forwardFrameEnd 1) ∧ readBackEvent 1 sending levels false = none ∧
      readBackEvent 1 sending (levels.take 48) true = none ∧
      readBackEvent 1 sending [false, true, true, true] false = some (.contention 1) ∧
      readBackEvent 1 sending (levels ++ [false]) true = some (.contention 1) ∧
      readBackEvent 1 LineUnit.initial levels true = none := by decide +kernel

/-! ### The computations' examples -/

/-- The table of R40, with the modes in its order. -/
theorem test_divisions :
    [Rounding.nearest, .towardZero, .away].map (divRound · (1 * 128) 256) = [0, 0, 1] ∧
      [Rounding.nearest, .towardZero, .away].map (divRound · (3 * 128) 256) = [2, 1, 2] ∧
      [Rounding.nearest, .towardZero, .away].map (divRound · (2110 * 3000) 256) = [24727, 24726, 24727] := by decide

/-- Conversion outcomes of 2.2. -/
theorem test_conversions :
    measured .nearest ⟨40, 3000, 0, 99999⟩ 2150 = (some 24727, .valid) ∧
      measured .nearest ⟨40, 7000, 0, 99999⟩ 4000 = (some 99999, .saturated) ∧
      measured .nearest ⟨40, 7000, 0, 90000⟩ 4000 = (some 99999, .implausible) ∧
      measured .nearest ⟨40, 3000, 50, 99999⟩ 41 = (some 12, .implausible) ∧
      measured .nearest ⟨40, 3000, 0, 99999⟩ 30 = (some 0, .valid) ∧
      measured .nearest ⟨0, 5120, 0, 99999⟩ 4085 = (none, .invalid) := by decide

/-- The rest gap of 3.4: w 16, F 1,000, S 1,007. -/
theorem test_filter_rest : filterStep .nearest 16 1000 1007 = 1000 ∧ filterStep .away 16 1000 1007 = 1001 := by decide

/-- The portal of 4.3 and 4.4. -/
def east : PortalConfig :=
  { PortalConfig.defaults 2 3 with
    up := 100
    deadBand := 20
    stages := ⟨[⟨1000, 80⟩, ⟨500, 80⟩, ⟨250, 80⟩, ⟨100, 80⟩, ⟨0, 80⟩, ⟨0, 0⟩, ⟨0, 0⟩, ⟨0, 0⟩], rfl⟩ }

theorem test_requirements : requirements .nearest east 1446 = [1446, 723, 362, 145, 80] := by decide

theorem test_slew : slewAll .nearest east false 0 [1446, 723, 362, 145, 80] [1380, 700, 360, 140, 80] =
    [1446, 723, 360, 145, 80] := by decide

/-- The fall of 4.4: held at U3, released at U4. -/
theorem test_fall :
    slewAll .nearest (PortalConfig.defaults 0 1) false 1 [1460, 730, 146] [2000, 1000, 200] = [2000, 1000, 200] ∧
      slewAll .nearest (PortalConfig.defaults 0 1) false 0 [1450, 725, 145] [2000, 1000, 200] = [1960, 980, 196] := by
  decide

/-- A stage with Q 1,446 and the given capacity. -/
def stageWith (capacity : Nat) : Stage := ⟨1446, 1446, capacity, 0, 0, StageFlags.clear⟩

/-- Rows of the table of 5.4, for u_min 100 and ceiling 6,000. -/
theorem test_output_fraction :
    stageOutput .nearest 100 6000 false false (stageWith 2115) = ⟨1446, 1446, 2115, 6837, 0, StageFlags.clear⟩ ∧
      stageOutput .nearest 100 6000 true true (stageWith 2115) = ⟨1446, 1446, 2115, 6000, 0, ⟨false, false, true, false, true⟩⟩ ∧
      stageOutput .nearest 100 6000 false true (stageWith 1305) = ⟨1446, 1446, 1305, 6000, 141, ⟨true, false, true, false, false⟩⟩ ∧
      stageOutput .nearest 100 6000 false false (stageWith 0) = ⟨1446, 1446, 0, 10000, 1446, ⟨false, true, false, false, false⟩⟩ ∧
      stageOutput .nearest 100 6000 false false (stageWith 200000) =
        ⟨1446, 1446, 200000, 100, 0, ⟨false, false, false, true, false⟩⟩ := by decide +kernel

/-- The class 1 curve of 5.9. -/
def class1 : Curve := ⟨[0, 20, 48, 80, 116, 156, 200, 248, 300, 356, 416, 480, 548, 620, 720, 860, 1023], rfl⟩

/-- The table of R107. -/
theorem test_codes :
    codeOf .nearest class1 6837 = 476 ∧ codeOf .nearest class1 6000 = 392 ∧ codeOf .nearest Curve.straightLine 100 = 10 ∧
      codeOf .nearest ⟨0 :: List.replicate 16 1, rfl⟩ 100 = 1 ∧ codeOf .nearest class1 10000 = 1023 := by decide

/-- The maintenance table shown with R96, and contributions of 5.9. -/
def rows96 : List MaintenanceRow := [⟨0, 1000⟩, ⟨500, 950⟩, ⟨1000, 900⟩, ⟨2000, 850⟩]

theorem test_maintenance : [499, 500, 1000, 2000].map (maintenanceFactor rows96) = [1000, 950, 900, 850] := by decide

/-- An ACTIVE luminaire of stage S0 of P1 on line 1, of class 1 and q 450, at the address of its slot (5.9). -/
def lamp (address : Fin 64) (age : Nat) (health : Health) : Entry :=
  { Entry.freed with
    state := .active
    line := 1
    address := address
    portal := 1
    cls := 1
    q := 450
    age := age
    health := health
    confirmed := some 476 }

theorem test_contributions :
    effective ⟨.nearest, 700, 6000⟩ rows96 (lamp 40 1200 .ok) = 405 ∧
      effective ⟨.nearest, 700, 6000⟩ rows96 (lamp 44 300 .derated) = 315 := by decide

/-! ### Steps -/

/-- The state a step answers. -/
def nextOf (o : Host.Outcome State Fault Refusal) : State :=
  match o with
  | .next t => t
  | .fault _ => State.reset
  | .refused _ => State.reset

/-- The state one command leaves. -/
def run (c : Instr) (s : State) : State := nextOf (exec c s)

/-- The part right after reset, with a luminaire in slot 40. -/
def withLamp (e : Entry) : State := putEntry 40 e State.reset

/-- The response's characters after the address character, while it is in preparation. -/
def answer (s : State) : List Byte :=
  match s.link.receive with
  | .turnaround r _ => r.body
  | _ => []

/-- The message of 8.10: RETIRE of a FREE slot at station 12 is answered by 140, length 2, STATE and check. -/
theorem test_retire_free_slot :
    (run (.retire 5) { State.reset with settings := { Settings.defaults with station := 12 } }).link.receive =
      .turnaround ⟨140#8, [2#8, 3#8, 0xFB#8]⟩ .nothing := by decide +kernel

/-- The six characters of 8.10, one event each, leave the response of the whole message. -/
theorem test_retire_by_characters :
    answer (nextOf (feed [.addressCharacter 31#8, .dataCharacter 4#8, .dataCharacter 0x14#8, .dataCharacter 0#8,
      .dataCharacter 5#8, .dataCharacter 0xE3#8] State.reset)) = [2#8, 3#8, 0xFB#8] := by decide +kernel

/-- ENTER takes slot 0, answers with it, and its line polls it (R7, R141). -/
theorem test_enter :
    let t := run (.enter 0xFFFF 1 40 1 0 1 450 1200 300) State.reset
    (entryAt t 0).state = .provisional ∧ (entryAt t 0).setLevel = 300 ∧ answer t = [4#8, 0#8, 0#8, 0#8, 0xFC#8] ∧
      (t.lines.get 1).inFlight = some ⟨.status, some (0, 40), .forward, false⟩ ∧ (t.lines.get 1).cursor = 1 := by
  decide +kernel

/-- ENTER of another slot with the same line and address is a CONFLICT (R5). -/
theorem test_enter_conflict :
    answer (run (.enter 7 1 40 1 0 1 450 0 0xFFFF) (withLamp (lamp 40 0 .ok))) = [2#8, 4#8, 0xFA#8] := by decide +kernel

/-- RETIRE of an ACTIVE entry: RETIRING, answered 4, and its release in flight on its quiet line (R21, R144). -/
theorem test_retire_active :
    let t := run (.retire 40) (withLamp (lamp 40 0 .ok))
    (entryAt t 40).state = .retiring ∧ answer t = [3#8, 0#8, 4#8, 0xF9#8] ∧
      (t.lines.get 1).inFlight = some ⟨.release 1, some (40, 40), .forward, false⟩ := by decide +kernel

/-- SUSPEND, and RESUME after it (R17, R18). -/
theorem test_suspend_resume :
    let t := run (.suspend 40) (withLamp (lamp 40 0 .ok))
    (entryAt t 40).state = .suspended ∧ (entryAt (run (.resume 40) t) 40).state = .provisional ∧
      (entryAt (run (.resume 40) t) 40).confirmed = none := by decide +kernel

/-- The first message of 11.3: two applied, one skipped, CONFLICT at slot 19. -/
theorem test_commissioning :
    let record (a : Fin 64) : EntryRecord := ⟨1, 2, a, 1, 1, 1, 300, 0, none⟩
    let t := run (.writeNext [record 8, record 9, { record 0 with state := 0 }, record 9, record 10, record 11])
      (run (.openWindow 16 23 1) State.reset)
    answer t = [8#8, 0#8, 2#8, 1#8, 0#8, 4#8, 0#8, 19#8, 0xDE#8] ∧ (entryAt t 17).address = 9 ∧
      (entryAt t 19).state = .free ∧ t.roster.window = some ⟨16, 23, .write, 19⟩ := by decide +kernel

/-- A lit luminaire's hundredth tick is one unit of age (R32). -/
theorem test_age_tick :
    let t := run .ageTickExpiry (withLamp { lamp 40 7 .ok with sub := 99 })
    (entryAt t 40).age = 8 ∧ (entryAt t 40).sub = 0 := by decide +kernel

/-- A first INVALID conversion reports CH_INVALID and advances the reading number (R43, R44), and the scan goes on. -/
theorem test_conversion_invalid :
    let t := run (.conversionComplete 4085) (run .scanTimerExpiry State.reset)
    t.scanner.readings.get 0 = ⟨none, .invalid, 1#8⟩ ∧ t.events.flags.getLsbD 0 = true ∧
      t.scanner.scan = some ⟨Settings.defaults.scanList, 1, 1⟩ := by decide +kernel

/-- The first update of a portal with no reading: START, hold count 1, cause STALE of its primary channel (R61, R67). -/
theorem test_first_update :
    let live := (run (.updateTimerExpiry 1) State.reset).portals.get 1
    live.control = .start ∧ live.holdCount = 1 ∧ live.cause = .stale 2 ∧ live.riseJump = false := by decide +kernel

/-- SET_MANUAL lowers its luminance to Lth_cap; SET_AUTO of a portal not in MANUAL is refused with STATE (R69, R70). -/
theorem test_manual :
    ((run (.setManual 1 99999) State.reset).portals.get 1).manualLth = 3000 ∧
      answer (run (.setAuto 1) State.reset) = [2#8, 3#8, 0xFB#8] := by decide +kernel

/-- The six entries of 5.9 in their slots, with P1 at the Q of the example and u_min 100. -/
def slots59 : Tbl Entry 256 :=
  (((((State.reset.roster.slots.set 40 (lamp 40 1200 .ok)).set 41 (lamp 41 1200 .ok)).set 42
    { lamp 42 1200 .lampFail with confirmed := some 0 }).set 43 (lamp 43 1200 .ok)).set 44 (lamp 44 300 .ok)).set 45
    (lamp 45 300 .unknown)

def settings59 : Settings :=
  { Settings.defaults with
    portals := Settings.defaults.portals.set 1 east
    curves := Settings.defaults.curves.set 1 class1
    maintenance := rows96 }

def live59 : PortalLive :=
  { PortalLive.initial with
    stages := PortalLive.initial.stages.mapIdx fun j st =>
      { st with q := [1446, 723, 360, 145, 80].getD j.val 0 } }

def example59 : State :=
  { State.reset with
    settings := settings59
    portals := State.reset.portals.set 1 live59
    roster := { State.reset.roster with slots := slots59 } }

theorem test_capacity : stageCapacity example59 1 0 = 2115 := by decide +kernel

/-- 5.10: force drives the stage at 10,000, FORCED, and hands 1,023 in slot order; the power limit then cuts it to 6,000 and hands
392 in the places of the requests still queued (7.9). -/
theorem test_force_and_limit :
    let forced := run (.force .station 0x02#8) example59
    let limited := run (.limit .station 0x02#8) forced
    (((forced.portals.get 1).stages.get 0).u, ((limited.portals.get 1).stages.get 0).u) = (10000, 6000) ∧
      (forced.lines.get 1).inFlight = some ⟨.level 1023, some (40, 40), .forward, false⟩ ∧
      (forced.lines.get 1).queue =
        [⟨.level 1023, 41, 41⟩, ⟨.level 1023, 43, 43⟩, ⟨.level 1023, 44, 44⟩, ⟨.level 1023, 45, 45⟩] ∧
      (limited.lines.get 1).queue =
        [⟨.level 392, 41, 41⟩, ⟨.level 392, 43, 43⟩, ⟨.level 392, 44, 44⟩, ⟨.level 392, 45, 45⟩, ⟨.level 392, 40, 40⟩] ∧
      (entryAt limited 42).setLevel = 0 := by decide +kernel

/-- 6.5: the fire contact bounces at 15 ms; its debounce ends at 62 ms with the EDGE latches of P1 and P2 and one FORCE_ON. -/
theorem test_fire_contact :
    let inputs := Settings.defaults.inputs.set 0 ⟨.force, 0x6#4, .edge, .activeDeenergised⟩
    let wired := putInput 0 ⟨.energised, some .energised, none⟩
      { State.reset with settings := { Settings.defaults with inputs := inputs } }
    let bounced := run (.inputLevelChange 0 .energised) (run (.inputLevelChange 0 .deenergised) wired)
    let done := run (.debounceExpiry 0) (run (.inputLevelChange 0 .deenergised) bounced)
    (bounced.overrides.inputs.get 0).debounce = none ∧ done.overrides.forceLatch = 0x6#4 ∧
      done.events.flags.getLsbD 45 = true ∧ ((done.portals.get 2).stages.get 0).flags.forced = true := by decide +kernel

/-- R185: an idle debounce has no candidate, and the byte is read-as-zero, with the input energised and accepted so. -/
theorem test_idle_candidate :
    let idle := putInput 0 ⟨.energised, some .energised, none⟩ State.reset
    inputBytes idle 0 = [0#8, 0#8, 0#8, 0#8, 1#8, 1#8, 1#8, 0#8, 0#8] := by decide +kernel

/-- R128: a contact that moves while the part is without its supply is debounced from the level that the full reset finds, and its
demand is honoured at the expiry. -/
theorem test_level_moves_without_supply :
    let inputs := Settings.defaults.inputs.set 0 ⟨.force, 0x6#4, .edge, .activeEnergised⟩
    let stored := { State.reset.store with image := ⟨{ Settings.defaults with inputs := inputs }, Tbl.fill 256 Entry.freed⟩ }
    let off := run .powerLoss
      { State.reset with store := { stored with check := -(imageSum stored.image), complete := true } }
    let moved := run (.inputLevelChange 0 .energised) off
    let started := run .fullReset moved
    (moved.overrides.inputs.get 0).debounce = (off.overrides.inputs.get 0).debounce ∧
      started.overrides.inputs.get 0 = ⟨.energised, none, some ⟨.energised, .running 40⟩⟩ ∧
      (run (.debounceExpiry 0) started).overrides.forceLatch = 0x6#4 := by decide +kernel

/-- The line unit of 7.10 at its fourth start of LEVEL 90. -/
def line710 : LineUnit :=
  { LineUnit.initial with
    contentions := 3
    queue := [⟨.release 0, 95, 15⟩]
    inFlight := some ⟨.level 320, some (90, 10), .forward, false⟩ }

/-- The entries of 7.10 on line L3. -/
def state710 (u : LineUnit) : State :=
  let on (address : Fin 64) (state : EntryState) (confirmed : Option Nat) : Entry :=
    { Entry.freed with state := state, line := 3, address := address, confirmed := confirmed }
  putLine 3 u (putEntry 90 (on 10 .active (some 300)) (putEntry 91 (on 11 .active (some 300))
    (putEntry 92 (on 12 .active (some 0)) (putEntry 95 (on 15 .retiring none) State.reset))))

/-- 7.10: the fourth contention faults the line, frees slot 95 and clears the confirmed levels. -/
theorem test_line_fault :
    let t := run (.contention 3) (state710 line710)
    (t.lines.get 3).faulted = true ∧ (t.lines.get 3).contentions = 4 ∧ (t.lines.get 3).queue = [] ∧
      (entryAt t 95).state = .free ∧ (entryAt t 90).confirmed = none ∧ (entryAt t 92).state = .active ∧
      t.events.flags.getLsbD 39 = true := by decide +kernel

/-- 7.10: a contention below the fourth puts the frame back at the head. -/
theorem test_contention_put_back :
    let t := run (.contention 3) (state710 { line710 with contentions := 0 })
    (t.lines.get 3).contentions = 1 ∧ (t.lines.get 3).queue = [⟨.level 320, 90, 10⟩, ⟨.release 0, 95, 15⟩] ∧
      (t.lines.get 3).inFlight = none := by decide +kernel

/-- 7.10: the fault wait ends in a probe, and the clean probe's quiet ends the fault with polling at the cursor. -/
theorem test_probe :
    let faulted := run (.contention 3) (state710 line710)
    let t := run (.probeEnd 3) (run (.forwardFrameEnd 3) (run (.faultWaitExpiry 3) faulted))
    (t.lines.get 3).faulted = false ∧ (t.lines.get 3).contentions = 0 ∧
      (t.lines.get 3).inFlight = some ⟨.status, some (90, 10), .forward, false⟩ := by decide +kernel

/-- 7.9: a valid LEVEL_ACK sets the confirmed level, and the gap follows. -/
theorem test_level_acknowledged :
    let sent := run (.backwardFrameStart 1 4000) (run (.forwardFrameEnd 1) (run (.force .station 0x02#8) example59))
    let t := run (.replyOutcome 1 (some ack1023)) sent
    (sent.lines.get 1).run = 1 ∧ (entryAt t 40).confirmed = some 1023 ∧
      (t.lines.get 1).inFlight = some ⟨.level 1023, some (40, 40), .gap, false⟩ ∧
      ((run (.transactionEnd 1) t).lines.get 1).inFlight = some ⟨.level 1023, some (41, 41), .forward, false⟩ := by
  decide +kernel

/-- 11.3: the third miss of a PROVISIONAL entry makes it unreachable and reports ENTRY_UNREACHABLE. -/
theorem test_unreachable :
    let polled := putLine 1 { LineUnit.initial with inFlight := some ⟨.status, some (40, 40), .window, false⟩ }
      (withLamp { lamp 40 0 .unknown with state := .provisional, miss := 2 })
    let t := run (.replyOutcome 1 none) polled
    (entryAt t 40).miss = 3 ∧ (entryAt t 40).unreachable = true ∧ t.events.flags.getLsbD 43 = true := by decide +kernel

/-- SET_LINES that disables L1: its transaction abandoned, its confirmed levels NONE (R153). -/
theorem test_disable_line :
    let t := run (.setLines 0x0D#8 3) (run (.locate 40) (withLamp (lamp 40 0 .ok)))
    t.settings.enables.get 1 = false ∧ (t.lines.get 1).inFlight = none ∧ (entryAt t 40).confirmed = none := by decide +kernel

/-- SET_LINK takes effect at the end of its response, which goes out under the station held (R170). -/
theorem test_set_link :
    let t := run .responseStart (run (.setLink 12 2) State.reset)
    t.settings.station = 31 ∧ (run .responseEnd t).settings.station = 12 ∧ (run .responseEnd t).settings.baud = .b38400 := by
  decide +kernel

/-- 9.5: a clear of the only unmasked flags lets the fault output conduct, and a masked flag leaves it so. -/
theorem test_clear_events :
    let short := report (.pShort 1) (report .entryFail { State.reset with events := ⟨0#48, .conducting⟩ })
    let t := run (.clearEvents 0x010020000000#48) short
    short.events.output = .released ∧ t.events = ⟨0#48, .conducting⟩ ∧
      (report .entryRecovered t).events.output = .conducting := by decide +kernel

/-- 10.5: STORE, then PIN while WRITING is taken, SET_STAGES is refused with BUSY, and the image read back is good and holds no
pin; the full reset after it loads slot 40 unpinned. -/
theorem test_store :
    let writing := run (.pin 40 300) (run .store (withLamp (lamp 40 0 .ok)))
    let t := run (.storeWriteComplete true) writing
    (entryAt writing 40).pin = some 300 ∧ answer (run (.setStages 1 1 [(1000, 80)]) writing) = [2#8, 6#8, 0xF8#8] ∧
      imageGood t.store = true ∧ (entryAt (run .fullReset t) 40).pin = none ∧
      (entryAt (run .fullReset t) 40).state = .active ∧ (run .fullReset t).events.flags = 0#48 := by decide +kernel

/-- 10.5: a loss of the supply during the write leaves the image bad, and the power-on takes the defaults with STORE_BAD. -/
theorem test_power_loss :
    let t := run .fullReset (run .powerLoss (run .store (withLamp (lamp 40 0 .ok))))
    (entryAt t 40).state = .free ∧ t.events = ⟨flagBit .storeBad, .released⟩ := by decide +kernel

/-- 3.9: one update of P1, with both channels new and VALID. -/
theorem test_update :
    let config := { east with k := 60, lthCap := 4000, w := 64 }
    let live := { live59 with
      control := .auto, filtered := 23900, seeded := true, trend := .rising, riseJump := false,
      primarySight := ⟨some 41#8, 0⟩, secondarySight := ⟨some 17#8, 0⟩ }
    let readings := (State.reset.scanner.readings.set 2 ⟨some 24727, .valid, 42#8⟩).set 3 ⟨some 23554, .valid, 18#8⟩
    let after := (run (.updateTimerExpiry 1) { State.reset with
      settings := { Settings.defaults with portals := Settings.defaults.portals.set 1 config }
      scanner := { State.reset.scanner with readings := readings }
      portals := State.reset.portals.set 1 live }).portals.get 1
    after.filtered = 24107 ∧ after.control = .auto ∧ after.appliedLth = 1446 ∧ after.disagreeing = false ∧
      after.primarySight = ⟨some 42#8, 0⟩ := by decide +kernel

/-! ### Witnesses: a state and operands that meet each statement's hypotheses -/

/-- The part with a luminaire in slot 40 and nothing else. -/
theorem entryAt_withLamp (e : Entry) (j : Fin 256) :
    entryAt (withLamp e) j = if (40 : Fin 256) = j then e else Entry.freed := by
  simp only [withLamp, putEntry, entryAt, Tbl.get_set, State.reset, Tbl.get_fill]

/-- A line unit with a transaction in flight to slot 40, on line 1. -/
def inPhase (kind : TransactionKind) (phase : Phase) : LineUnit :=
  { LineUnit.initial with inFlight := some ⟨kind, some (40, 40), phase, false⟩ }

/-- The part with that line unit and the luminaire. -/
def onLine (u : LineUnit) (e : Entry) : State := putLine 1 u (withLamp e)

/-- The part while the store is WRITING. -/
def whileWriting : State := run .store State.reset

/-- The part with a link unit. -/
def withLink (receive : Receive) : State := withReceive receive State.reset

/-- Every station command of these statements is heard right after reset, while WRITING, and with a message half received. -/
theorem witness_heard :
    hears State.reset = true ∧ hears whileWriting = true ∧ storeWriting whileWriting = true ∧
      storeWriting State.reset = false ∧ hears (withLink (.body .station 4 [])) = true := by decide +kernel

theorem witness_StepTakesFrontCommand : State.reset.pending = [] := rfl

theorem witness_PowerLossStopsPart :
    (run .powerLoss State.reset).powered = false ∧ Instr.store ≠ .fullReset ∧ Instr.store ≠ .powerLoss ∧
      ∀ i level, Instr.store ≠ .inputLevelChange i level :=
  ⟨by decide +kernel, by decide, by decide, fun _ _ h => Instr.noConfusion h⟩

theorem witness_DivisionRule : 0 < 2 ∧ 2 * (1 % 2) = 2 ∧ 2 * (3 % 2) = 2 := by decide

theorem witness_CharactersReceived :
    1 ≤ State.reset.settings.station ∧ hears State.reset = true ∧
      (withLink (.sending ⟨0#8, []⟩ .nothing)).link.receive = .sending ⟨0#8, []⟩ .nothing ∧
      State.reset.powered = true ∧ (withLink (.length .station)).link.receive = .length .station ∧
      (withLink (.body .station 2 [])).link.receive = .body .station 2 [] ∧ ([] : List Byte).length + 1 < 2 ∧
      State.reset.link.receive = .asleep ∧ (withLink (.length .station)).link.gap.isRunning = true ∧
      (withLink (.turnaround ⟨0#8, []⟩ .nothing)).link.receive = .turnaround ⟨0#8, []⟩ .nothing := by decide

/-- A refused command, a taken one and a broadcast one. -/
theorem witness_CommandAnswered :
    encodeMessage (.retire 256) = some (.station, [0x14#8, 1#8, 0#8]) ∧
      (∃ why, owner (.retire 256) State.reset = .refused why) ∧ encodeMessage .readMarks = some (.station, [0x1D#8]) ∧
      (∃ after data held, owner .readMarks State.reset = .taken after data held) ∧
      encodeMessage (.limit .broadcast 0x0F#8) = some (.broadcast, [0x52#8, 0x0F#8]) :=
  ⟨rfl, ⟨_, rfl⟩, rfl, ⟨_, _, _, rfl⟩, rfl⟩

theorem witness_BusyCommandsNotTaken : storeWriting whileWriting = true ∧ storeWriting (run .restart whileWriting) = true := by
  decide +kernel

/-- The last character of a message with a wrong check, of a broadcast ENTER, and of a command that is none. -/
theorem witness_MessageNotCarriedOut :
    (withLink (.body .station 2 [0x1D#8])).link.receive = .body .station 2 [0x1D#8] ∧ 2 ≤ [0x1D#8].length + 1 ∧
      ¬byteSum (BitVec.ofNat 8 2 :: ([0x1D#8] ++ [0#8])) = 0#8 ∧ ([0x10#8].head? = some 0x10#8 ∧ (0x10#8).toNat < 0x50) ∧
      byteSum (BitVec.ofNat 8 2 :: ([0x1F#8] ++ [0xDF#8])) = 0#8 ∧ decodeMessage .station [0x1F#8] = none := by decide

/-- SET_CURVE with every point at the top of its field, at the least and the greatest station. -/
theorem witness_CharactersCarryCommand :
    let c := Instr.setCurve 255 (List.replicate 17 65535)
    c.wf = true ∧ (∃ content, encodeMessage c = some (.station, content)) ∧ hears State.reset = true ∧
      (1 ≤ State.reset.settings.station ∧ State.reset.settings.station ≤ 31) ∧
      (run .responseEnd (run .responseStart (run (.setLink 1 0) State.reset))).settings.station = 1 := by
  refine ⟨by decide, ⟨_, rfl⟩, by decide, by decide, by decide +kernel⟩

theorem witness_MessageRoundTrip :
    (Instr.enter 0xFFFF 255 255 255 255 255 65535 65535 0xFFFF).wf = true ∧
      ∃ content, encodeMessage (.enter 0xFFFF 255 255 255 255 255 65535 65535 0xFFFF) = some (.station, content) :=
  ⟨by decide, _, rfl⟩

theorem witness_ResponsesAndHeldEffects :
    (run .store State.reset).link.receive = .turnaround (responseOf 31 .done []) .nothing ∧
      (run .responseStart (run .store State.reset)).link.receive = .sending (responseOf 31 .done []) .nothing ∧
      (run (.setLink 12 2) State.reset).link.receive = .turnaround (responseOf 31 .done []) (.setLink 12 .b38400) ∧
      (run .responseStart (run (.setLink 12 2) State.reset)).link.receive =
        .sending (responseOf 31 .done []) (.setLink 12 .b38400) ∧
      hears State.reset = true ∧ (run .restart State.reset).link.receive = .turnaround (responseOf 31 .done []) .restart ∧
      (run .responseStart (run .restart State.reset)).link.receive = .sending (responseOf 31 .done []) .restart ∧
      (run .restart State.reset).powered = true := by decide +kernel

/-- A response being sent and none; a false start, a spoiled, an address and a data character. -/
theorem witness_CharacterBits :
    (withLink (.sending ⟨0x9F#8, [2#8, 0#8, 0xFE#8]⟩ .nothing)).link.receive = .sending ⟨0x9F#8, [2#8, 0#8, 0xFE#8]⟩ .nothing ∧
      State.reset.link.receive = .asleep ∧ [2#8, 0#8, 0xFE#8][2]? = some 0xFE#8 ∧
      (2 ≤ one.first.toNat + one.second.toNat + one.third.toNat ∧ ¬2 ≤ zero.first.toNat + zero.second.toNat + zero.third.toNat) ∧
      (¬(noisy.first = noisy.second ∧ noisy.second = noisy.third) ∧ (zero.first = zero.second ∧ zero.second = zero.third)) := by
  decide

/-- A line in flight and one with none; an input's debounce pending; and a portal with stages in use. -/
theorem witness_RecordLayouts :
    (State.reset.lines.get 1).inFlight = none ∧
      ((onLine (inPhase .status .window) (lamp 40 0 .ok)).lines.get 1).inFlight = some ⟨.status, some (40, 40), .window, false⟩ ∧
      (State.reset.overrides.inputs.get 5).debounce = some ⟨.deenergised, .running 40⟩ ∧ rows96.length ≤ 8 ∧
      (PortalConfig.defaults 0 1).stageCount ≤ 8 ∧ (4 : Fin 8).val < (PortalConfig.defaults 0 1).stageCount := by decide +kernel

/-- FIND: one entry holds line 1, address 40, and none holds line 3, address 63. -/
theorem witness_ReadsReturnRecords :
    hears (withLamp (lamp 40 0 .ok)) = true ∧ DistinctChannels (withLamp (lamp 40 0 .ok)).roster.slots ∧
      (entryAt (withLamp (lamp 40 0 .ok)) 40).state ≠ .free ∧ (entryAt (withLamp (lamp 40 0 .ok)) 40).line = 1 ∧
      (entryAt (withLamp (lamp 40 0 .ok)) 40).address = 40 ∧
      ∀ k, (entryAt (withLamp (lamp 40 0 .ok)) k).state = .free ∨ (entryAt (withLamp (lamp 40 0 .ok)) k).line ≠ 3 ∨
        (entryAt (withLamp (lamp 40 0 .ok)) k).address ≠ 63 := by
  refine ⟨by decide, fun i j hi hj _ _ => ?_, by decide +kernel, by decide +kernel, by decide +kernel, by decide +kernel⟩
  have at_40 : ∀ k, (entryAt (withLamp (lamp 40 0 .ok)) k).state ≠ .free → (40 : Fin 256) = k := by
    intro k hk
    rw [entryAt_withLamp] at hk
    by_contra h
    rw [if_neg h] at hk
    exact hk rfl
  exact (at_40 i hi).symm.trans (at_40 j hj)

/-- ENTER's operands at the edges of their ranges: q 1 and 9,999, a named slot and the lowest FREE one. -/
theorem witness_EnterResult :
    hears State.reset = true ∧ (1 ≤ 1 ∧ 9999 ≤ 9999) ∧ (256 ≤ 256 ∧ 256 ≠ 0xFFFF) ∧
      (((none : Option (Fin 256)).map (·.val)).getD 0xFFFF = 0xFFFF ∧ ((some (255 : Fin 256)).map (·.val)).getD 0xFFFF = 255) := by
  decide

/-- AMEND of every field of a PROVISIONAL entry, to a line and address that no other holds; and its refusals' operands. -/
theorem witness_AmendResult :
    let s := withLamp { lamp 40 0 .ok with state := .provisional }
    (hears s = true ∧ storeWriting s = false ∧ (0x7F#8).getLsbD 7 = false ∧ (0x7F#8).getLsbD 5 = true) ∧
      (entryAt s 40).state = .provisional ∧
      (∀ j, j ≠ 40 → (entryAt s j).state = .free ∨ (entryAt s j).line ≠ 3 ∨ (entryAt s j).address ≠ 63) ∧
      (0x80#8).getLsbD 7 = true ∧ (0x00#8).getLsbD 7 = false ∧ 256 ≤ 256 ∧ (entryAt s 0).state = .free ∧
      (entryAt (withLamp (lamp 40 0 .ok)) 40).state = .active := by
  refine ⟨by decide, by decide +kernel, fun j hj => ?_, by decide, by decide, by decide, by decide +kernel, by decide +kernel⟩
  left
  rw [entryAt_withLamp, if_neg (fun h => hj h.symm)]
  rfl

/-- AMEND's CONFLICT: slot 0 moved to the line and address that slot 40 holds; and the same state while WRITING. -/
theorem witness_AmendConflict :
    let s := putEntry 0 { lamp 7 0 .ok with state := .suspended } (withLamp (lamp 40 0 .ok))
    hears s = true ∧ (entryAt s 0).state = .suspended ∧ (0x60#8).getLsbD 5 = true ∧ (entryAt s 40).state ≠ .free ∧
      (entryAt s 40).line.val = 1 ∧ (entryAt s 40).address.val = 40 ∧ hears (run .store s) = true ∧
      storeWriting (run .store s) = true := by decide +kernel

/-- A request for an address with none queued, and for one with a level, a release or an IDENT queued. -/
theorem witness_QueueReplacement :
    let queue : List Request := [⟨.level 1, 40, 40⟩, ⟨.release 0, 41, 41⟩, ⟨.ident, 42, 42⟩]
    (∀ r ∈ queue, r.address ≠ 43) ∧ (∃ r ∈ queue, r.address = 40) ∧ queue[0]? = some ⟨.level 1, 40, 40⟩ ∧
      queue[1]? = some ⟨.release 0, 41, 41⟩ ∧ queue[2]? = some ⟨.ident, 42, 42⟩ := by decide

/-- READ_NEXT at the edges of its count, with a READ window over every slot, a WRITE window and none. -/
theorem witness_WindowReadAndMarks :
    let opened := run (.openWindow 0 255 0) State.reset
    hears opened = true ∧ (0 < 1 ∧ 16 < 17 ∧ 1 ≤ 16) ∧ opened.roster.window = some ⟨0, 255, .read, 0⟩ ∧
      (run (.openWindow 0 255 1) State.reset).roster.window = some ⟨0, 255, .write, 0⟩ ∧
      State.reset.roster.window = none := by decide +kernel

/-- A transfer stopped, one past its last slot, one at an EMPTY record and one at a record to be applied; and messages of 16 and 17
records with a WRITE window open and with none. -/
theorem witness_WriteNextResult :
    let opened := run (.openWindow 0 255 1) State.reset
    let records : List EntryRecord := List.replicate 16 ⟨1, 0, 0, 0, 0, 0, 1, 0, none⟩
    hears opened = true ∧ storeWriting opened = false ∧ opened.roster.window = some ⟨0, 255, .write, 0⟩ ∧ records ≠ [] ∧
      records.length ≤ 16 ∧ 16 < (List.replicate 17 (⟨1, 0, 0, 0, 0, 0, 1, 0, none⟩ : EntryRecord)).length ∧
      State.reset.roster.window = none ∧ storeWriting whileWriting = true ∧
      (⟨State.reset, ⟨0, 5, .write, 5⟩, 0, 0, 0, .conflict⟩ : Transfer).outcome ≠ .done ∧
      (⟨State.reset, ⟨0, 5, .write, 6⟩, 0, 0, 0, .done⟩ : Transfer).window.last < 6 ∧
      (⟨State.reset, ⟨0, 5, .write, 5⟩, 0, 0, 0, .done⟩ : Transfer).window.cursor ≤ 5 ∧
      (⟨0, 0, 0, 0, 0, 0, 1, 0, none⟩ : EntryRecord).state = 0 ∧ (⟨7, 0, 0, 0, 0, 0, 1, 0, none⟩ : EntryRecord).state ≠ 0 ∧
      ((5 : Fin 256)).val = 5 := by decide +kernel

theorem witness_AgeTickResult : State.reset.powered = true ∧ State.reset.roster.ageTick.isRunning = true := by decide

theorem witness_ReadingRule : (measured .nearest ⟨40, 7000, 0, 99999⟩ 4000).2 = .saturated ∧ (⟨none, 0⟩ : Sight).staleness < 1 := by
  decide

/-- The scanner idle, and at its first and its last position. -/
theorem witness_ScanResult :
    State.reset.scanner.timer.isRunning = true ∧ State.reset.scanner.scan = none ∧
      (run .scanTimerExpiry State.reset).scanner.scan = some ⟨Settings.defaults.scanList, 0, 0⟩ ∧
      ((1 : Fin 8).val = (0 : Fin 8).val + 1) ∧
      ({ State.reset.scanner with scan := some ⟨Settings.defaults.scanList, 7, 7⟩ } : Scanner).scan =
        some ⟨Settings.defaults.scanList, 7, 7⟩ := by decide +kernel

theorem witness_ScannerSettings :
    (List.replicate 8 8).length = 8 ∧ ∃ p ∈ List.replicate 8 8, 8 ≤ p ∧ p ≠ 0xFF := by decide

/-- A channel seen and one not; both usable, one usable and none; no channel assigned, and the secondary alone. -/
theorem witness_SelectionRule :
    let valid : Reading := ⟨some 500, .valid, 7#8⟩
    let s := { State.reset with scanner := { State.reset.scanner with readings := State.reset.scanner.readings.set 0 valid } }
    let c := PortalConfig.defaults 0 1
    let both := { s with scanner := { s.scanner with readings := s.scanner.readings.set 1 valid } }
    (c.primary = some 0 ∧ c.secondary = some 1 ∧ ({ c with primary := none } : PortalConfig).primary = none ∧
        ({ c with secondary := none } : PortalConfig).secondary = none) ∧
      ((⟨none, 0⟩ : Sight).lastSeen ≠ some valid.number ∧ (⟨some 7#8, 15⟩ : Sight).lastSeen = some valid.number) ∧
      (selectionPass s c PortalLive.initial).2 = some 500 ∧ (selectionPass both c PortalLive.initial).2 = some 500 ∧
      (selectionPass State.reset c PortalLive.initial).2 = none := by decide

/-- Returns from START and HOLD, an entry to FALLBACK at the hold limit, and a recovery at the recover count. -/
theorem witness_ControlStateRule :
    let c := PortalConfig.defaults 0 1
    let fallen : PortalLive := { PortalLive.initial with control := .fallback, goodCount := 2 }
    let held : PortalLive := { PortalLive.initial with control := .hold, holdCount := 59 }
    PortalLive.initial.control = .start ∧ (held.control = .hold ∧ c.holdLimit ≤ held.holdCount + 1) ∧
      (fallen.control = .fallback ∧ c.recoverCount ≤ fallen.goodCount + 1 ∧ some 500 ≠ (none : Option Nat)) := by decide

theorem witness_UpdateResult : State.reset.powered = true ∧ (State.reset.portals.get 3).timer.isRunning = true := by decide

/-- A portal in FALLBACK, one not seeded, and one seeded, at the edges of w. -/
theorem witness_FilterRule :
    ({ PortalLive.initial with control := .fallback } : PortalLive).control = .fallback ∧
      PortalLive.initial.control ≠ .fallback ∧ PortalLive.initial.seeded = false ∧
      ({ PortalLive.initial with control := .auto, seeded := true } : PortalLive).seeded = true ∧
      ({ PortalConfig.defaults 0 1 with w := 256 } : PortalConfig).w ≤ 256 := by decide

theorem witness_SlewAndClamp :
    ({ PortalConfig.defaults 0 1 with role := .closed } : PortalConfig).role = .closed ∧ (PortalConfig.defaults 0 1).role ≠ .closed ∧
      (clampInward [1000, 1005])[1]? = some 1000 ∧ 1000 ≤ 1008 ∧ 1450 ≤ 2000 := by decide

/-- SET_ROLE at the edges of its ranges. -/
theorem witness_ManualAutoAndRole : hears State.reset = true ∧ 4 ≤ 4 ∧ 3 ≤ 3 ∧ 2 < 3 ∧ storeWriting State.reset = false := by decide

/-- SET_STAGES at the edges of its ranges. -/
theorem witness_SetStagesResult :
    (List.replicate 8 (1000, 99999)).length = 8 ∧ (∀ x ∈ List.replicate 8 (1000, 99999), x.1 ≤ 1000 ∧ x.2 ≤ 99999) ∧
      (List.replicate 9 (0, 0)).length = 9 ∧ (∃ x ∈ [(1001, 0)], 1000 < x.1 ∨ 99999 < x.2) ∧ [(0, 0)].length ≠ 2 := by decide

/-- SET_PORTAL with every field at the top of its range, and with one channel in both positions. -/
theorem witness_SetPortalResult :
    let c : PortalFields := ⟨0, 0xFF, 200, 99999, 99999, 99999, 256, 1000, 1000, 100, 255, 15, 255, 15, 1000, 2000, 10000⟩
    (hears State.reset = true ∧ storeWriting State.reset = false) ∧
      (c.primary = ((some (0 : Fin 8)).map (·.val)).getD 0xFF ∧ c.secondary = ((none : Option (Fin 8)).map (·.val)).getD 0xFF) ∧
      ((some (0 : Fin 8) = none → some (0 : Fin 8) = none) ∧ c.k ≤ 200 ∧ c.lthMin ≤ c.lthCap ∧ c.lthFallback ≤ c.lthCap ∧
        c.lthCap ≤ 99999 ∧ c.w ≤ 256 ∧ c.up ≤ 1000 ∧ c.dn ≤ 1000) ∧
      (c.deadBand ≤ 100 ∧ c.fallHoldLength ≤ 255 ∧ c.staleLimit ≤ 15 ∧ c.holdLimit ≤ 255 ∧ c.recoverCount ≤ 15 ∧
        c.disagreement ≤ 1000 ∧ c.uMin ≤ 2000 ∧ c.updateInterval ≤ 10000) ∧
      ({ c with secondary := 0 } : PortalFields).primary = ({ c with secondary := 0 } : PortalFields).secondary := by decide

/-- The table commands at the edges of their ranges. -/
theorem witness_OutputTableCommands :
    (300 ≤ 300 ∧ 1000 ≤ 1000 ∧ 2000 ≤ 2000 ∧ 10000 ≤ 10000 ∧ 299 < 300) ∧ maintenanceInRange rows96 ∧
      (¬maintenanceInRange [⟨1, 1000⟩]) ∧ Curve.InRange class1 ∧ ¬Curve.InRange (Tbl.fill 17 0) := by
  refine ⟨by decide, ⟨by decide, by decide, by decide, by decide⟩, fun h => absurd h.2.1 (by decide),
    ⟨by decide, by decide, by decide⟩, fun h => absurd (h.2.2 0 1 rfl).1 (by decide)⟩

theorem witness_CapacityRule :
    counted (withLamp (lamp 40 0 .ok)) (lamp 40 0 .ok) = true ∧ rows96.Pairwise (fun a b => a.threshold < b.threshold) ∧
      rows96[1]? = some ⟨500, 950⟩ ∧ 500 ≤ 999 ∧ (∀ later, rows96[2]? = some later → 999 < later.threshold) ∧
      maintenanceInRange rows96 := by
  refine ⟨by decide +kernel, by decide, by decide, by decide, ?_, by decide, by decide, by decide, by decide⟩
  intro later h
  cases h
  decide

theorem witness_OutputFractionRule :
    (2000 ≤ 2000 ∧ 2000 ≤ 10000 ∧ 10000 ≤ 10000) ∧ (State.reset.portals.get 3).updated = false ∧
      ((run (.updateTimerExpiry 3) State.reset).portals.get 3).updated = true := by decide +kernel

theorem witness_LevelCodeRule :
    Curve.InRange class1 ∧ 10000 ≤ 10000 ∧ ((15 : Fin 17).val = 9999 / 625 ∧ (16 : Fin 17).val = (15 : Fin 17).val + 1) := by
  refine ⟨⟨by decide, by decide, by decide⟩, by decide, by decide, by decide⟩

/-- Masks with and without a must-be-zero position; SET_INPUT at the edges of its ranges. -/
theorem witness_OverrideCommands :
    (0x10#8).extractLsb' 4 4 ≠ 0#4 ∧ (0x0F#8).extractLsb' 4 4 = 0#4 ∧ 0x0F#8 = 0#4 ++ 0xF#4 ∧ (0 < 1 ∧ 6 < 7) ∧
      6 = (5 : Fin 6).val + 1 := by decide

theorem witness_ConditionsAndInputs :
    (State.reset.overrides.inputs.get 5).debounce = some ⟨.deenergised, .running 40⟩ ∧ State.reset.powered = true := by decide

/-- A transaction in each phase, an abort, a fault wait running, and a clean probe. -/
theorem witness_TransactionPhases :
    ((onLine (inPhase .status .forward) (lamp 40 0 .ok)).lines.get 1).inFlight = some ⟨.status, some (40, 40), .forward, false⟩ ∧
      ((onLine (inPhase .status .window) (lamp 40 0 .ok)).lines.get 1).inFlight =
        some ⟨.status, some (40, 40), .window, false⟩ ∧
      (inPhase .status .gap).inFlight = some ⟨.status, some (40, 40), .gap, false⟩ ∧
      ({ LineUnit.initial with aborting := true } : LineUnit).inFlight = none ∧
      ((run (.contention 3) (state710 line710)).lines.get 3).faulted = true ∧
      ((run (.contention 3) (state710 line710)).lines.get 3).faultWait.isRunning = true ∧
      ({ LineUnit.initial with faulted := true, inFlight := some ⟨.probe, none, .gap, false⟩ } : LineUnit).inFlight =
        some ⟨.probe, none, .gap, false⟩ := by decide +kernel

/-- A line that drives a frame and one that drives none; a frame to an entry and a probe's. -/
theorem witness_DriveLineFrames :
    LineUnit.initial.driving = none ∧
      ({ LineUnit.initial with driving := some (frameOf .status (some (40, 40))) } : LineUnit).driving =
        some (frameOf .status (some (40, 40))) ∧
      ((some (40, 40) : Option (Fin 256 × Fin 64)) = some (40, 40) ∧ TransactionKind.status ≠ .probe) ∧
      decodeReply (.level 1023) ack1023 = some (⟨false, false, false⟩, 1023) := by decide +kernel

/-- A LEVEL frame to the luminaire in its backward frame, and the reply of 12.5. -/
theorem witness_ReplyApplied :
    let s := onLine (inPhase (.level 1023) .backward) (lamp 40 0 .ok)
    s.powered = true ∧ (s.lines.get 1).inFlight = some ⟨.level 1023, some (40, 40), .backward, false⟩ ∧
      decodeReply (.level 1023) ack1023 = some (⟨false, false, false⟩, 1023) ∧ (entryAt s 40).state ≠ .free ∧
      (entryAt s 40).line = 1 ∧ (entryAt s 40).address = 40 := by decide +kernel

/-- An ACK, its cells' second halves as the bits. -/
def ack : BackwardSignal := ⟨~~~0b1_11_000_0000000000_0#17, 0b1_11_000_0000000000_0#17, true⟩

/-- A poll at the close of its window, a GARBLED reply, a release at its second and third attempt, an acknowledged IDENT, and a poll and a
release of an entry freed meanwhile. -/
theorem witness_MissAndRelease :
    let s := onLine (inPhase .status .window) (lamp 40 0 .ok)
    let r := onLine (inPhase (.release 2) .window) { lamp 40 0 .ok with state := .retiring }
    (s.powered = true ∧ (s.lines.get 1).inFlight = some ⟨.status, some (40, 40), .window, false⟩ ∧
        (entryAt s 40).state ≠ .free ∧ (entryAt s 40).line = 1 ∧ (entryAt s 40).address = 40) ∧
      decodeReply .status ack = none ∧ decodeReply .ident ack ≠ none ∧ decodeReply (.release 3) ack1023 ≠ none ∧
      (entryAt r 40).state = .retiring ∧ (∀ q ∈ (r.lines.get 1).queue, q.address ≠ 40) ∧ 2 < 3 ∧ 3 ≤ 3 ∧
      (entryAt (onLine (inPhase .status .window) Entry.freed) 40).state = .free ∧
      (entryAt (onLine (inPhase (.release 3) .window) Entry.freed) 40).state ≠ .retiring := by decide +kernel

/-- A quiet line with a request and the run count at 7, one with none, the luminaire its one entry to poll; and a line in flight. -/
theorem witness_NextTransaction :
    let s := onLine { LineUnit.initial with queue := [⟨.level 0, 40, 40⟩], run := 7 } (lamp 40 0 .ok)
    (s.settings.enables.get 1 = true ∧ (s.lines.get 1).faulted = false ∧ (s.lines.get 1).inFlight = none ∧
        (s.lines.get 1).aborting = false ∧ (s.lines.get 1).run < 8) ∧
      (entryAt s 40).line = 1 ∧ (entryAt s 40).state = .active ∧
      (∀ j, (entryAt s j).line = 1 → (40 : Fin 256) - 0 ≤ j - 0) ∧
      (∀ k, (entryAt State.reset k).state ≠ .active) ∧
      ((onLine (inPhase .status .gap) (lamp 40 0 .ok)).lines.get 1).inFlight ≠ none := by
  refine ⟨by decide, by decide +kernel, by decide +kernel, fun j hj => ?_, by decide +kernel, by decide⟩
  change (entryAt (withLamp (lamp 40 0 .ok)) j).line = 1 at hj
  rw [entryAt_withLamp] at hj
  by_cases h : (40 : Fin 256) = j
  · rw [← h]
  · rw [if_neg h] at hj
    exact absurd hj (by decide)

/-- A contention at the counts 2 and 3, on a FAULTED line, and of a frame to no entry. -/
theorem witness_ContentionRule :
    ((state710 line710).powered = true ∧ ((state710 line710).lines.get 3).inFlight =
        some ⟨.level 320, some (90, 10), .forward, false⟩ ∧ ((state710 line710).lines.get 3).faulted = false ∧
        3 ≤ ((state710 line710).lines.get 3).contentions) ∧
      ({ line710 with contentions := 2 } : LineUnit).contentions < 3 ∧
      ({ line710 with faulted := true, inFlight := some ⟨.probe, none, .forward, false⟩ } : LineUnit).inFlight =
        some ⟨.probe, none, .forward, false⟩ := by decide +kernel

/-- SET_LINES at the edges of its ranges. -/
theorem witness_SetLinesResult :
    (0x1F#8).extractLsb' 4 4 ≠ 0#4 ∧ (0x0D#8).extractLsb' 4 4 = 0#4 ∧ (0 < 1 ∧ 7 < 8 ∧ 1 ≤ 1 ∧ 7 ≤ 7) ∧
      hears State.reset = true ∧ storeWriting State.reset = false ∧ State.reset.settings.enables.get 1 = true ∧
      (0x0D#8).getLsbD 1 = false ∧
      (run (.setLines 0x0D#8 3) State.reset).settings.enables.get 1 = false ∧ (0x0F#8).getLsbD 1 = true := by decide +kernel

theorem witness_StoreResult :
    (whileWriting.store.state ≠ .idle ∧ whileWriting.store.complete = false) ∧ whileWriting.powered = true ∧ whileWriting.store.state = .writing (snapshotOf State.reset) ∧
      (run .powerLoss whileWriting).store.complete = false ∧ (run .powerLoss whileWriting).powered = false ∧
      State.reset.store.complete = false ∧ State.reset.pending.head? ≠ some (.storeWriteComplete true) := by decide +kernel

/-- The default settings are in range, and so is the state of a part that holds them and the luminaire. -/
theorem witness_RangesKept :
    RangesHold { withLamp (lamp 40 0 .ok) with pending := [.enter 0xFFFF 0 0 0 0 0 1 65535 0xFFFF] } ∧ WindowBounded (run (.openWindow 0 255 0) State.reset) := by
  have defaults : Settings.InRange Settings.defaults := by
    refine ⟨?_, by decide, ?_, ?_, ⟨by decide, by decide, by decide, by decide⟩, by decide, ⟨by decide, by decide⟩, by decide,
      by decide, by decide⟩
    · unfold Calibration.InRange
      decide
    · unfold PortalConfig.InRange
      decide +kernel
    · unfold Curve.InRange
      decide +kernel
  refine ⟨⟨fun c h => ?_, defaults, defaults, ?_, fun _ _ h => ?_⟩, fun w h => ?_⟩
  · rw [List.mem_singleton.mp h]
    decide
  · intro snapshot h
    cases (show StoreState.idle = .writing snapshot from h)
  · rcases h with h | h
    · cases (show Receive.asleep = .turnaround _ _ from h)
    · cases (show Receive.asleep = .sending _ _ from h)
  · have opened : (run (.openWindow 0 255 0) State.reset).roster.window = some ⟨0, 255, .read, 0⟩ := by decide +kernel
    rw [opened] at h
    cases h
    decide

/-- The luminaire at the edges of the ranges beside 255 FREE slots. -/
theorem witness_EntriesStayInRange :
    EntriesInRange (withLamp
      { lamp 40 65535 .lost with
        state := .suspended, unreachable := true, q := 9999, sub := 99, pin := some 1023, miss := 3, setLevel := 1023
        confirmed := some 1023 }) := by
  have free : Entry.freed.InRange 3 :=
    ⟨fun _ => rfl, fun h => absurd rfl h, by decide, by decide, fun _ h => (Option.some_ne_none _ h.symm).elim, by decide, by decide,
      fun _ h => (Option.some_ne_none _ h.symm).elim, fun h => absurd h (by decide)⟩
  refine ⟨fun k => ?_, fun k => ?_, fun snapshot h => ?_⟩
  · rw [entryAt_withLamp]
    split
    · refine ⟨fun h => absurd h (by decide), fun _ => by decide, by decide, by decide, fun code h => ?_, by decide, by decide,
        fun level h => ?_, fun _ => Or.inr rfl⟩
      · exact Nat.le_of_eq (Option.some.inj h).symm
      · exact Nat.le_of_eq (Option.some.inj h).symm
    · exact free
  · exact (show ((Tbl.fill 256 Entry.freed).get k).InRange 3 by rw [Tbl.get_fill]; exact free)
  · cases (show StoreState.idle = .writing snapshot from h)

theorem witness_ChannelsStayDistinct : RosterDistinct (withLamp (lamp 40 0 .ok)) := by
  refine ⟨witness_ReadsReturnRecords.2.1, fun i _ hi _ _ _ => ?_, ?_⟩
  · exact absurd (show ((Tbl.fill 256 Entry.freed).get i).state = .free by rw [Tbl.get_fill]; rfl) hi
  · intro snapshot h
    cases (show StoreState.idle = .writing snapshot from h)

/-- A line that drives its transaction's frame. -/
theorem witness_DrivesForward :
    let s := onLine (startTransaction .status (some (40, 40)) LineUnit.initial) (lamp 40 0 .ok)
    (s.lines.get 1).inFlight = some ⟨.status, some (40, 40), .forward, false⟩ ∧
      (s.lines.get 1).driving = some (frameOf .status (some (40, 40))) ∧ (s.lines.get 0).inFlight = none ∧
      (s.lines.get 2).driving = none ∧ (s.lines.get 3).inFlight = none ∧ DrivesForward s := by
  unfold DrivesForward
  decide +kernel

theorem witness_QueuesStayKeyed :
    QueuesKeyed (onLine { LineUnit.initial with queue := [⟨.level 0, 40, 40⟩, ⟨.ident, 41, 41⟩] } (lamp 40 0 .ok)) := by
  unfold QueuesKeyed OnePerAddress
  decide +kernel

theorem witness_OutputFollowsFlags : OutputFormed (report .storeFail (withLamp (lamp 40 0 .ok))) := by
  unfold OutputFormed
  decide

theorem witness_EntrancesStayDescending : EntrancesDescend example59 := by
  unfold EntrancesDescend StagesDescend
  decide +kernel

/-- A waiting command steps to a next state from the states above. -/
theorem witness_steps :
    (match step { withLamp (lamp 40 0 .ok) with pending := [.retire 40] } with
      | .next t => decide ((entryAt t 40).state = .retiring)
      | .fault _ => false
      | .refused _ => false) = true := by decide +kernel

end Sys2Proof.Tests
end

/-! PROOFS. The luminance and the status of a conversion (R39 to R42): one equation of `measured` per outcome, and O27. -/
section
namespace Sys2Proof.Machine

open Sys2Proof

theorem atRail_iff (raw : Nat) : atRail raw = true ↔ raw ≤ 15 ∨ 4080 ≤ raw := by
  simp [atRail]

section Outcomes

variable {mode : Rounding} {c : Calibration} {raw : Nat}

theorem measured_of_atRail (rail : atRail raw = true) : measured mode c raw = (none, .invalid) :=
  if_pos rail

/-- R42 judges the luminance as R41 has held it, so a saturated one above the high limit is IMPLAUSIBLE. -/
theorem measured_of_outside_limits (off : ¬ atRail raw = true)
    (outside : min (luminanceOf mode c raw) Config.topLuminance < c.lowLimit ∨
      c.highLimit < min (luminanceOf mode c raw) Config.topLuminance) :
    measured mode c raw = (some (min (luminanceOf mode c raw) Config.topLuminance), .implausible) :=
  (if_neg off).trans (if_pos outside)

theorem measured_of_within_limits (off : ¬ atRail raw = true)
    (within : ¬ (min (luminanceOf mode c raw) Config.topLuminance < c.lowLimit ∨
      c.highLimit < min (luminanceOf mode c raw) Config.topLuminance)) :
    measured mode c raw = (some (min (luminanceOf mode c raw) Config.topLuminance),
      if Config.topLuminance < luminanceOf mode c raw then .saturated else .valid) :=
  (if_neg off).trans (if_neg within)

/-- R41's hold: only the branch within the limits answers SATURATED, and only above the top of the scale. -/
theorem luminance_of_measured_saturated (saturated : (measured mode c raw).2 = .saturated) :
    (measured mode c raw).1 = some Config.topLuminance := by
  by_cases rail : atRail raw = true
  · rw [measured_of_atRail rail] at saturated
    cases saturated
  by_cases outside : min (luminanceOf mode c raw) Config.topLuminance < c.lowLimit ∨
      c.highLimit < min (luminanceOf mode c raw) Config.topLuminance
  · rw [measured_of_outside_limits rail outside] at saturated
    cases saturated
  · rw [measured_of_within_limits rail outside] at saturated ⊢
    have above : Config.topLuminance < luminanceOf mode c raw := by
      by_contra below
      cases (if_neg below).symm.trans saturated
    exact congrArg some (Nat.min_eq_right (Nat.le_of_lt above))

end Outcomes

theorem usable_of_selectable {staleLimit : Nat} {r : Reading} {sight : Sight} (selected : selectable r.status = true)
    (fresh : sight.staleness < staleLimit) : usable staleLimit r sight = r.luminance := by
  simp [usable, selected, fresh]

/-- Settles O27: the branches of `measured` in order, and the use of a saturated reading from R41's hold. -/
theorem readingRule : Obligations.ReadingRule := by
  refine ⟨fun mode c raw => ?_, fun mode c raw staleLimit number sight saturated fresh => ?_⟩
  · dsimp only
    split_ifs with rail outside above
    · exact measured_of_atRail ((atRail_iff raw).mpr rail)
    · exact measured_of_outside_limits (mt (atRail_iff raw).mp rail) outside
    · exact (measured_of_within_limits (mt (atRail_iff raw).mp rail) outside).trans (congrArg _ (if_pos above))
    · exact (measured_of_within_limits (mt (atRail_iff raw).mp rail) outside).trans (congrArg _ (if_neg above))
  · exact (usable_of_selectable rfl fresh).trans (luminance_of_measured_saturated saturated)

end Sys2Proof.Machine
end

/-! PROOFS. The approach filter (R62, R63): what a rounded share of a difference can be, the fields that a trend leaves, one equation of
`filterPass` per case, and O32. -/
section
namespace Sys2Proof.Machine

open Sys2Proof

/-! ### Rounded quotients (R1) -/

/-- Every mode takes the quotient or, where there is a fraction, it or the next integer. -/
theorem divRound_eq_or (mode : Rounding) (x : Nat) {y : Nat} (positive : 0 < y) :
    divRound mode x y = x / y ∨ x % y ≠ 0 ∧ divRound mode x y = x / y + 1 := by
  cases mode with
  | towardZero => exact Or.inl rfl
  | away =>
    simp only [divRound]
    split_ifs with whole
    · exact Or.inl rfl
    · exact Or.inr ⟨whole, rfl⟩
  | nearest =>
    simp only [divRound]
    split_ifs with below above even
    · exact Or.inl rfl
    · exact Or.inr ⟨by omega, rfl⟩
    · exact Or.inl rfl
    · exact Or.inr ⟨by omega, rfl⟩

theorem divRound_le_of_le_mul (mode : Rounding) {x y z : Nat} (positive : 0 < y) (bounded : x ≤ z * y) :
    divRound mode x y ≤ z := by
  have quotient : x / y ≤ z := Nat.div_le_of_le_mul (Nat.mul_comm z y ▸ bounded)
  rcases divRound_eq_or mode x positive with rounded | ⟨fraction, rounded⟩
  · exact rounded ▸ quotient
  · have strict : x / y ≠ z := by
      rintro rfl
      have := Nat.div_add_mod' x y
      omega
    omega

theorem divRound_mul_self (mode : Rounding) (x : Nat) {y : Nat} (positive : 0 < y) : divRound mode (x * y) y = x := by
  rcases divRound_eq_or mode (x * y) positive with rounded | ⟨fraction, -⟩
  · rw [rounded, Nat.mul_div_cancel x positive]
  · exact absurd (Nat.mul_mod_left x y) fraction

theorem divRound_zero (mode : Rounding) {y : Nat} (positive : 0 < y) : divRound mode 0 y = 0 :=
  Nat.le_zero.mp (divRound_le_of_le_mul mode positive (Nat.zero_le _))

theorem divRoundInt_natCast (mode : Rounding) (x y : Nat) : divRoundInt mode x y = divRound mode x y :=
  if_neg (Int.natCast_nonneg x).not_gt

theorem divRoundInt_neg_natCast (mode : Rounding) (x : Nat) {y : Nat} (positive : 0 < y) :
    divRoundInt mode (-(x : Int)) y = -(divRound mode x y : Int) := by
  rcases Nat.eq_zero_or_pos x with rfl | above
  · simp [divRoundInt, divRound_zero mode positive]
  · have negative : -(x : Int) < 0 := by omega
    rw [divRoundInt, if_pos negative, Int.natAbs_neg, Int.natAbs_natCast]

/-- The share `w / y` of a signed difference, `w` at most `y`, has the sign of the difference and never a larger magnitude (R62). -/
theorem divRoundInt_share_mem (mode : Rounding) (x : Int) {w y : Nat} (positive : 0 < y) (share : w ≤ y) :
    min 0 x ≤ divRoundInt mode (x * w) y ∧ divRoundInt mode (x * w) y ≤ max 0 x := by
  obtain ⟨n, rfl | rfl⟩ := x.eq_nat_or_neg
  all_goals have bounded : divRound mode (n * w) y ≤ n :=
    divRound_le_of_le_mul mode positive (Nat.mul_le_mul_left n share)
  · rw [← Int.natCast_mul, divRoundInt_natCast]
    omega
  · rw [Int.neg_mul, ← Int.natCast_mul, divRoundInt_neg_natCast mode _ positive]
    omega

theorem divRoundInt_mul_self (mode : Rounding) (x : Int) {y : Nat} (positive : 0 < y) : divRoundInt mode (x * y) y = x := by
  obtain ⟨n, rfl | rfl⟩ := x.eq_nat_or_neg
  · rw [← Int.natCast_mul, divRoundInt_natCast, divRound_mul_self mode n positive]
  · rw [Int.neg_mul, ← Int.natCast_mul, divRoundInt_neg_natCast mode _ positive, divRound_mul_self mode n positive]

/-! ### The filter step (R62) -/

section Step

variable (mode : Rounding) {w : Nat} (f luminance : Nat)

/-- The step never takes F below 0, so `filterStep` truncates nothing. -/
theorem filterStep_cast (share : w ≤ 256) :
    (filterStep mode w f luminance : Int) = f + divRoundInt mode (((luminance : Int) - f) * w) 256 := by
  obtain ⟨lower, -⟩ := divRoundInt_share_mem mode ((luminance : Int) - f) (by decide : 0 < 256) share
  exact Int.toNat_of_nonneg (by omega)

theorem filterStep_between (share : w ≤ 256) :
    min f luminance ≤ filterStep mode w f luminance ∧ filterStep mode w f luminance ≤ max f luminance := by
  have step := filterStep_cast mode f luminance share
  obtain ⟨lower, upper⟩ := divRoundInt_share_mem mode ((luminance : Int) - f) (by decide : 0 < 256) share
  omega

theorem filterStep_whole : filterStep mode 256 f luminance = luminance := by
  have step := filterStep_cast mode f luminance le_rfl
  rw [divRoundInt_mul_self mode _ (by decide)] at step
  omega

end Step

/-! ### The trend (R63) -/

section Trend

variable (c : PortalConfig) (before after : Nat) (live : PortalLive)

@[simp] theorem trendAfter_filtered : (trendAfter c before after live).filtered = live.filtered := by
  unfold trendAfter
  split_ifs <;> rfl

@[simp] theorem trendAfter_seeded : (trendAfter c before after live).seeded = live.seeded := by
  unfold trendAfter
  split_ifs <;> rfl

theorem trendAfter_trend : (trendAfter c before after live).trend =
    if before < after then .rising else if after < before then .falling else live.trend := by
  unfold trendAfter
  split_ifs <;> rfl

theorem trendAfter_fallHold : (trendAfter c before after live).fallHold =
    if live.trend = .rising ∧ after < before then c.fallHoldLength else live.fallHold := by
  unfold trendAfter
  by_cases fell : after < before
  · simp only [fell.not_gt, fell, and_true, if_false, if_true]
  · simp only [fell, and_false, if_false]
    split_ifs <;> rfl

end Trend

/-! ### The filter's pass (R62) -/

section Pass

variable (mode : Rounding) (c : PortalConfig) {live : PortalLive} (luminance : Nat)

theorem filterPass_fallback (fallen : live.control = .fallback) : filterPass mode c (some luminance) live = live := by
  simp only [filterPass, fallen]

/-- Outside FALLBACK an S seeds F, or steps it and forms the trend. -/
theorem filterPass_of_ne_fallback (outside : live.control ≠ .fallback) :
    filterPass mode c (some luminance) live =
      if live.seeded then
        trendAfter c live.filtered (filterStep mode c.w live.filtered luminance)
          { live with filtered := filterStep mode c.w live.filtered luminance }
      else { live with filtered := luminance, seeded := true } := by
  unfold filterPass
  split
  next absent => cases absent
  next fallen => exact absurd fallen outside
  next taken _ =>
    cases taken
    rfl

end Pass

/-- Settles O32: the equations of `filterPass`, and the bounds of one filter step. -/
theorem filterRule : Obligations.FilterRule := by
  refine fun mode c live => ⟨rfl, fun luminance => ⟨filterPass_fallback mode c luminance, fun outside fresh => ?_,
    fun outside seeded share => ?_⟩⟩
  · rw [filterPass_of_ne_fallback mode c luminance outside, fresh]
    rfl
  · obtain ⟨lower, upper⟩ := filterStep_between mode live.filtered luminance share
    simp only [filterPass_of_ne_fallback mode c luminance outside, if_pos seeded, trendAfter_filtered, trendAfter_seeded]
    refine ⟨filterStep_cast mode _ _ share, seeded, lower, upper, fun whole => ?_, fun held found => ?_,
      trendAfter_trend .., trendAfter_fallHold ..⟩
    · rw [whole, filterStep_whole]
    · exact upper.trans (max_le held found)

end Sys2Proof.Machine
end

/-! PROOFS. A stage's slew and the inward clamp (R82, R84 to R86, R89): one equation of `slew` per direction, the bounds of a rise and of a
fall, what the clamp leaves at each position, and O34. -/
section
namespace Sys2Proof.Machine

open Sys2Proof

/-! ### The inward clamp (R82, R89) -/

theorem clampAfter_length (outer : Nat) (values : List Nat) : (clampAfter outer values).length = values.length := by
  induction values generalizing outer with
  | nil => rfl
  | cons x rest ih => exact congrArg (· + 1) (ih (min x outer))

/-- The bound that the clamp carries inward is the least of all the values outside a position. -/
theorem clampAfter_getElem? (outer : Nat) {values : List Nat} {i : Nat} (inside : i < values.length) :
    (clampAfter outer values)[i]? = some ((values.take (i + 1)).foldl min outer) := by
  induction values generalizing outer i with
  | nil => cases inside
  | cons x rest ih =>
    cases i with
    | zero => exact congrArg some (Nat.min_comm x outer)
    | succ i =>
      rw [clampAfter, Nat.min_comm x outer]
      exact ih (min outer x) (Nat.lt_of_succ_lt_succ inside)

theorem clampInward_length (values : List Nat) : (clampInward values).length = values.length := by
  cases values with
  | nil => rfl
  | cons x rest => exact congrArg (· + 1) (clampAfter_length x rest)

theorem clampInward_getElem? {values : List Nat} {i : Nat} (inside : i < values.length) :
    (clampInward values)[i]? = (values.take (i + 1)).min? := by
  cases values with
  | nil => cases inside
  | cons x rest =>
    cases i with
    | zero => rfl
    | succ i => exact clampAfter_getElem? x (Nat.lt_of_succ_lt_succ inside)

/-! ### The requirement (R81 to R83) -/

section Requirement

variable (mode : Rounding) {c : PortalConfig} (applied : Nat)

theorem requirements_of_closed (closed : c.role = .closed) :
    requirements mode c applied = List.replicate (stagesInUse c).length 0 := by
  simp only [requirements, closed, List.map_const']

theorem requirements_of_open (opened : c.role ≠ .closed) :
    requirements mode c applied =
      clampInward ((stagesInUse c).map fun st => max (divRound mode (applied * st.f) 1000) st.floor) := by
  unfold requirements
  split
  next closed => exact absurd closed opened
  all_goals rfl

end Requirement

/-! ### The slew (R84 to R86) -/

section Slew

variable (mode : Rounding) (c : PortalConfig) (jump : Bool) (rate deadBand hold : Nat) {r q : Nat}

theorem slew_of_lt (above : q < r) : slew mode c jump hold r q = rise mode c.up c.deadBand jump r q :=
  if_pos above

theorem slew_of_gt (below : r < q) : slew mode c jump hold r q = fall mode c.dn c.deadBand hold r q :=
  (if_neg below.not_gt).trans (if_pos below)

theorem slew_self : slew mode c jump hold q q = q :=
  (if_neg (lt_irrefl q)).trans (if_neg (lt_irrefl q))

theorem rise_between (above : q < r) : q ≤ rise mode rate deadBand jump r q ∧ rise mode rate deadBand jump r q ≤ r := by
  unfold rise
  split_ifs <;> omega

theorem fall_between (below : r < q) : r ≤ fall mode rate deadBand hold r q ∧ fall mode rate deadBand hold r q ≤ q := by
  unfold fall
  split_ifs <;> omega

theorem slew_between_of_le (above : q ≤ r) : q ≤ slew mode c jump hold r q ∧ slew mode c jump hold r q ≤ r := by
  rcases above.eq_or_lt with rfl | above
  · simp only [slew_self, le_refl, and_self]
  · rw [slew_of_lt mode c jump hold above]
    exact rise_between mode jump c.up c.deadBand above

theorem slew_between_of_ge (below : r ≤ q) : r ≤ slew mode c jump hold r q ∧ slew mode c jump hold r q ≤ q := by
  rcases below.eq_or_lt with rfl | below
  · simp only [slew_self, le_refl, and_self]
  · rw [slew_of_gt mode c jump hold below]
    exact fall_between mode c.dn c.deadBand hold below

/-- The dead band measures the difference of R and Q the same in both directions. -/
theorem slew_eq : slew mode c jump hold r q =
    if q < r then
      if jump = true then r else if (max r q - min r q) * 1000 ≤ c.deadBand * q then q
        else min r (q + max 1 (divRound mode (q * c.up) 1000))
    else if r < q then
      if (max r q - min r q) * 1000 ≤ c.deadBand * q then q else if 0 < hold then q
        else max r (q - max 1 (divRound mode (q * c.dn) 1000))
    else q := by
  rcases lt_trichotomy q r with above | rfl | below
  · rw [if_pos above, max_eq_left above.le, min_eq_right above.le]
    exact slew_of_lt mode c jump hold above
  · rw [if_neg (lt_irrefl q), if_neg (lt_irrefl q)]
    exact slew_self mode c jump hold
  · rw [if_neg below.not_gt, if_pos below, max_eq_right below.le, min_eq_left below.le]
    exact slew_of_gt mode c jump hold below

end Slew

/-- Settles O34: the two forms of the requirement, the equation of `slew` with its bounds, and the clamp's value at each position. -/
theorem slewAndClamp : Obligations.SlewAndClamp := by
  refine ⟨fun mode c applied => ⟨requirements_of_closed mode applied, requirements_of_open mode applied⟩,
    fun mode c jump hold r q => ⟨slew_eq mode c jump hold, slew_between_of_le mode c jump hold,
      slew_between_of_ge mode c jump hold⟩,
    fun values => ⟨clampInward_length values, fun i v found => ?_⟩⟩
  obtain ⟨inside, -⟩ := List.getElem?_eq_some_iff.mp found
  rw [clampInward_length] at inside
  exact (clampInward_getElem? inside).symm.trans found

end Sys2Proof.Machine
end

/-! PROOFS. The level code of an output fraction (R107): one equation of `codeOf` per segment, and O41. -/
section
namespace Sys2Proof.Machine

open Sys2Proof

section Codes

variable (mode : Rounding) (curve : Curve) {u : Nat} {i j : Fin 17}

/-- The point of a curve's segment at an output fraction, before R107 raises a 0 of a lit stage to 1. -/
def segmentCode (u : Nat) (i j : Fin 17) : Nat :=
  curve.get i + divRound mode ((curve.get j - curve.get i) * (u - 625 * i.val)) 625

theorem codeOf_last (last : 16 ≤ u / 625) : codeOf mode curve u = curve.get 16 :=
  dif_neg last.not_gt

theorem codeOf_of_segment (segment : i.val = u / 625) (next : j.val = i.val + 1) :
    codeOf mode curve u =
      if 0 < u ∧ segmentCode mode curve u i j = 0 then 1 else segmentCode mode curve u i j := by
  obtain ⟨i, _⟩ := i
  obtain ⟨j, inside⟩ := j
  obtain rfl : i = u / 625 := segment
  obtain rfl : j = u / 625 + 1 := next
  exact dif_pos (Nat.lt_of_succ_lt_succ inside)

/-- The part of a segment left of u is below 625, so its share of the rise is at most the rise. -/
theorem segmentCode_le (segment : i.val = u / 625) (rising : curve.get i ≤ curve.get j) :
    segmentCode mode curve u i j ≤ curve.get j := by
  have part : u - 625 * i.val ≤ 625 := by omega
  have share := divRound_le_of_le_mul mode (by decide : 0 < 625)
    (Nat.mul_le_mul_left (curve.get j - curve.get i) part)
  unfold segmentCode
  omega

theorem codeOf_zero (start : curve.get 0 = 0) : codeOf mode curve 0 = 0 := by
  have flat : segmentCode mode curve 0 0 1 = 0 := by
    simp [segmentCode, start, divRound_zero]
  rw [codeOf_of_segment mode curve (i := 0) (j := 1) rfl rfl, flat]
  rfl

end Codes

/-- Settles O41: the equations of `codeOf`, and the bound of a segment's share. -/
theorem levelCodeRule : Obligations.LevelCodeRule := by
  rintro mode curve u ⟨start, -, rising⟩ -
  refine ⟨?_, codeOf_zero mode curve start, fun i j segment next => ⟨codeOf_of_segment mode curve segment next,
    Nat.le_add_right _ _, segmentCode_le mode curve segment (rising i j next).2⟩⟩
  rintro rfl
  exact codeOf_last mode curve (by decide)

end Sys2Proof.Machine
end

/-! PROOFS. What is counted, the maintenance factor, an effective contribution and a stage's capacity (R6, R95, R97, R98), and O39. -/
section
namespace Sys2Proof.Machine

open Sys2Proof

/-! ### What is counted (R6) -/

theorem Health.sound_iff (h : Health) : h.sound = true ↔ h = .ok ∨ h = .derated ∨ h = .unknown := by
  cases h <;> decide

theorem lineUsable_iff (s : State) (l : Fin 4) :
    lineUsable s l = true ↔ s.settings.enables.get l = true ∧ (s.lines.get l).faulted = false := by
  simp only [lineUsable, Bool.and_eq_true, Bool.not_eq_true']

theorem counted_iff (s : State) (e : Entry) : counted s e = true ↔
    e.state = .active ∧ e.pin = none ∧ (e.health = .ok ∨ e.health = .derated ∨ e.health = .unknown) ∧
      e.stage.val < (s.settings.portals.get e.portal).stageCount ∧ s.settings.enables.get e.line = true ∧
      (s.lines.get e.line).faulted = false := by
  simp only [counted, Bool.and_eq_true, decide_eq_true_eq, Option.isNone_iff_eq_none, Health.sound_iff, lineUsable_iff, and_assoc]

/-! ### The maintenance factor (R95) -/

section Maintenance

variable {rows : List MaintenanceRow} {age : Nat}

/-- One row of the search for the factor of an age. -/
def factorThrough (age found : Nat) (r : MaintenanceRow) : Nat := if r.threshold ≤ age then r.factor else found

theorem maintenanceFactor_eq_foldl (rows : List MaintenanceRow) (age : Nat) :
    maintenanceFactor rows age = rows.foldl (factorThrough age) 0 := rfl

theorem foldl_factorThrough_of_later (found : Nat) (later : ∀ r ∈ rows, age < r.threshold) :
    rows.foldl (factorThrough age) found = found := by
  induction rows with
  | nil => rfl
  | cons r rest ih =>
    obtain ⟨above, others⟩ := List.forall_mem_cons.mp later
    rw [List.foldl_cons, factorThrough, if_neg above.not_ge, ih others]

/-- In a table of rising thresholds every row behind one above the age is above it too. -/
theorem later_of_head_later (sorted : rows.Pairwise fun a b => a.threshold < b.threshold)
    (head : ∀ r, rows.head? = some r → age < r.threshold) : ∀ r ∈ rows, age < r.threshold := by
  cases rows with
  | nil => exact List.forall_mem_nil _
  | cons first rest =>
    have above : age < first.threshold := head first rfl
    exact List.forall_mem_cons.mpr ⟨above, fun r member => above.trans (List.rel_of_pairwise_cons sorted member)⟩

/-- The row's place cuts the table: the search takes its factor there, and no row behind it replaces it. -/
theorem maintenanceFactor_of_row {i : Nat} {r : MaintenanceRow} (sorted : rows.Pairwise fun a b => a.threshold < b.threshold)
    (row : rows[i]? = some r) (reached : r.threshold ≤ age)
    (next : ∀ later, rows[i + 1]? = some later → age < later.threshold) : maintenanceFactor rows age = r.factor := by
  have behind : ∀ later ∈ rows.drop (i + 1), age < later.threshold :=
    later_of_head_later (sorted.sublist (List.drop_sublist _ _)) fun later found => next later (by rwa [List.head?_drop] at found)
  have cut : rows = rows.take i ++ r :: rows.drop (i + 1) := by
    obtain ⟨inside, rfl⟩ := List.getElem?_eq_some_iff.mp row
    rw [← List.drop_eq_getElem_cons inside, List.take_append_drop]
  calc maintenanceFactor rows age
      = (rows.drop (i + 1)).foldl (factorThrough age)
          (factorThrough age ((rows.take i).foldl (factorThrough age) 0) r) := by
        rw [maintenanceFactor_eq_foldl]
        conv_lhs => rw [cut]
        rw [List.foldl_append, List.foldl_cons]
    _ = r.factor := by rw [foldl_factorThrough_of_later _ behind, factorThrough, if_pos reached]

theorem maintenanceFactor_le (inRange : maintenanceInRange rows) : maintenanceFactor rows age ≤ 1000 := by
  obtain ⟨-, -, -, factors⟩ := inRange
  rw [maintenanceFactor_eq_foldl]
  refine List.foldlRecOn (motive := (· ≤ 1000)) rows _ (Nat.zero_le _) fun found bounded r member => ?_
  unfold factorThrough
  split_ifs
  · exact (factors r member).2
  · exact bounded

end Maintenance

/-- The product of R97 is at most q for each 1,000 that divides it. -/
theorem effective_le {c : Compute} {rows : List MaintenanceRow} (e : Entry) (inRange : maintenanceInRange rows)
    (thermal : c.thermal ≤ 1000) : effective c rows e ≤ e.q := by
  have whole : e.q * maintenanceFactor rows e.age ≤ e.q * 1000 := Nat.mul_le_mul_left _ (maintenanceFactor_le inRange)
  simp only [effective]
  split_ifs
  · refine divRound_le_of_le_mul c.mode (by decide) ?_
    calc e.q * maintenanceFactor rows e.age * c.thermal ≤ e.q * 1000 * 1000 := Nat.mul_le_mul whole thermal
      _ = e.q * 1000000 := Nat.mul_assoc ..
  · exact divRound_le_of_le_mul c.mode (by decide) whole

/-! ### A stage's capacity (R98) -/

theorem sum_filter_cells {α : Type} {n : Nat} (t : Tbl α n) (keep : α → Bool) (f : α → Nat) :
    ((t.cells.filter keep).map f).sum = ∑ k : Fin n, if keep (t.get k) = true then f (t.get k) else 0 := by
  have cells : t.cells = (List.finRange n).map t.get :=
    congrArg Tbl.cells (Tbl.ext_get (u := Tbl.tabulate t.get) fun i => (Tbl.get_tabulate t.get i).symm)
  calc ((t.cells.filter keep).map f).sum
      = (t.cells.map fun a => if keep a = true then f a else 0).sum := by simp [List.sum_map_ite]
    _ = _ := by rw [cells, List.map_map, Fin.sum_univ_def]; rfl

theorem stageCapacity_eq_sum (s : State) (p : Fin 4) (j : Fin 8) :
    stageCapacity s p j = ∑ k : Fin 256,
      if (entryAt s k).portal = p ∧ (entryAt s k).stage = j ∧ counted s (entryAt s k) = true then
        effective s.settings.compute s.settings.maintenance (entryAt s k) else 0 := by
  simp only [stageCapacity, sum_filter_cells, Bool.and_eq_true, decide_eq_true_eq, and_assoc]
  rfl

theorem capacityPass_eq_putPortal (s : State) (p : Fin 4) :
    ∃ stages : Tbl Stage 8, capacityPass p s = putPortal p { s.portals.get p with stages := stages } s ∧
      ∀ j : Fin 8, stages.get j =
        if j.val < (s.settings.portals.get p).stageCount then
          { (s.portals.get p).stages.get j with capacity := stageCapacity s p j }
        else (s.portals.get p).stages.get j :=
  ⟨_, rfl, fun j => by simp only [Tbl.get_mapIdx, inUse, decide_eq_true_eq]⟩

/-- Settles O39: the counting rule, the row of an age, the bound of a contribution, the sum over the slots and the pass's whole effect. -/
theorem capacityRule : Obligations.CapacityRule :=
  ⟨counted_iff, fun _ _ _ _ => maintenanceFactor_of_row, fun _ _ e => ⟨rfl, effective_le e⟩, stageCapacity_eq_sum,
    capacityPass_eq_putPortal⟩

end Sys2Proof.Machine
end

/-! PROOFS. A stage's output fraction and a portal's output (R100 to R105, R113): DARK, SHORT and the fraction that Q and C demand, what
u_min, force and the limit make of it, and O40. -/
section
namespace Sys2Proof.Machine

open Sys2Proof

/-! ### A stage's output (R100 to R104) -/

section Fraction

variable (mode : Rounding) (uMin ceiling : Nat) (force limit : Bool) (q c : Nat)

/-- R100: a commanded luminance and no capacity. -/
abbrev IsDark : Prop := q ≠ 0 ∧ c = 0

/-- R101: the raw fraction is above full output. -/
abbrev IsShort : Prop := q ≠ 0 ∧ c ≠ 0 ∧ 10000 < divRound mode (q * 10000) c

/-- u as R100 and R101 leave it. -/
def demandedFraction : Nat :=
  if q = 0 then 0 else if IsDark q c ∨ IsShort mode q c then 10000 else divRound mode (q * 10000) c

/-- R102 raises u. -/
abbrev IsMinHeld : Prop := 0 < demandedFraction mode q c ∧ demandedFraction mode q c < uMin

/-- u as R103 leaves it. -/
def drivenFraction : Nat :=
  if force = true then 10000 else if IsMinHeld mode uMin q c then uMin else demandedFraction mode q c

/-- R104 cuts u. -/
abbrev IsLimited : Prop := limit = true ∧ ceiling < drivenFraction mode uMin force q c

/-- u as R104 leaves it. -/
def limitedFraction : Nat :=
  if IsLimited mode uMin ceiling force limit q c then ceiling else drivenFraction mode uMin force q c

variable {mode uMin ceiling force limit q c}

theorem demandedFraction_le : demandedFraction mode q c ≤ 10000 := by
  unfold demandedFraction IsShort
  split_ifs <;> omega

theorem drivenFraction_le (low : uMin ≤ 10000) : drivenFraction mode uMin force q c ≤ 10000 := by
  have := @demandedFraction_le mode q c
  unfold drivenFraction
  split_ifs <;> omega

theorem uMin_le_drivenFraction (low : uMin ≤ 10000) (lit : 0 < drivenFraction mode uMin force q c) :
    uMin ≤ drivenFraction mode uMin force q c := by
  unfold drivenFraction IsMinHeld at *
  split_ifs at * <;> omega

/-- A capacity of Q or more gives a raw fraction of at most 10,000. -/
theorem lt_of_short (short : IsShort mode q c) : c < q := by
  obtain ⟨-, capacity, above⟩ := short
  by_contra enough
  refine above.not_ge (divRound_le_of_le_mul mode (Nat.pos_of_ne_zero capacity) ?_)
  rw [Nat.mul_comm q]
  exact Nat.mul_le_mul_left 10000 (Nat.le_of_not_lt enough)

theorem shortfall_pos_iff : 0 < (if IsDark q c ∨ IsShort mode q c then q - c else 0) ↔ IsDark q c ∨ IsShort mode q c := by
  split_ifs with lacks
  · refine iff_of_true (Nat.sub_pos_of_lt ?_) lacks
    rcases lacks with ⟨demand, rfl⟩ | short
    · exact Nat.pos_of_ne_zero demand
    · exact lt_of_short short
  · exact iff_of_false (lt_irrefl 0) lacks

theorem demandedFraction_of_lacking (lacks : IsDark q c ∨ IsShort mode q c) : demandedFraction mode q c = 10000 :=
  (if_neg (lacks.elim And.left And.left)).trans (if_pos lacks)

/-- A DARK or SHORT stage is at 10,000 already, so u_min, at most that, does not hold it. -/
theorem not_isMinHeld_of_lacking (low : uMin ≤ 10000) (lacks : IsDark q c ∨ IsShort mode q c) : ¬ IsMinHeld mode uMin q c := by
  rw [IsMinHeld, demandedFraction_of_lacking lacks]
  exact fun held => held.2.not_ge low

theorem fractionFromDemand_of_lacking (lacks : IsDark q c ∨ IsShort mode q c) : fractionFromDemand mode uMin q c =
    (10000, q - c, ⟨decide (IsShort mode q c), decide (IsDark q c), false, false, false⟩) := by
  rcases lacks with ⟨demand, rfl⟩ | ⟨demand, capacity, above⟩
  · simp [fractionFromDemand, demand, StageFlags.clear]
  · simp [fractionFromDemand, demand, capacity, above, StageFlags.clear]

theorem fractionFromDemand_of_met (met : ¬ (IsDark q c ∨ IsShort mode q c)) : fractionFromDemand mode uMin q c =
    (if IsMinHeld mode uMin q c then uMin else demandedFraction mode q c, 0,
      ⟨false, false, false, decide (IsMinHeld mode uMin q c), false⟩) := by
  by_cases idle : q = 0
  · simp [fractionFromDemand, demandedFraction, idle, StageFlags.clear]
  have capacity : c ≠ 0 := fun absent => met (.inl ⟨idle, absent⟩)
  have enough : ¬ 10000 < divRound mode (q * 10000) c := fun above => met (.inr ⟨idle, capacity, above⟩)
  have raw : demandedFraction mode q c = divRound mode (q * 10000) c := (if_neg idle).trans (if_neg met)
  simp only [fractionFromDemand, if_neg idle, if_neg capacity, if_neg enough, IsMinHeld, raw]
  split_ifs with held <;> simp [held, StageFlags.clear]

/-- R100 to R102 in one equation: only a met demand can be held, and only a lacking one has a shortfall. -/
theorem fractionFromDemand_eq (low : uMin ≤ 10000) : fractionFromDemand mode uMin q c =
    (if IsMinHeld mode uMin q c then uMin else demandedFraction mode q c,
      if IsDark q c ∨ IsShort mode q c then q - c else 0,
      ⟨decide (IsShort mode q c), decide (IsDark q c), false, decide (IsMinHeld mode uMin q c), false⟩) := by
  by_cases lacks : IsDark q c ∨ IsShort mode q c
  · have held : ¬ IsMinHeld mode uMin q c := not_isMinHeld_of_lacking low lacks
    rw [fractionFromDemand_of_lacking lacks, if_neg held, decide_eq_false held, if_pos lacks,
      demandedFraction_of_lacking lacks]
  · have ⟨dark, short⟩ := not_or.mp lacks
    rw [fractionFromDemand_of_met lacks, if_neg lacks, decide_eq_false dark, decide_eq_false short]

theorem limitedFraction_le (low : uMin ≤ 10000) (top : ceiling ≤ 10000) :
    limitedFraction mode uMin ceiling force limit q c ≤ 10000 := by
  unfold limitedFraction
  split_ifs
  · exact top
  · exact drivenFraction_le low

/-- A cut stage stays lit at u_min or above, because the ceiling is at least u_min (R104). -/
theorem uMin_le_limitedFraction (low : uMin ≤ 10000) (floor : uMin ≤ ceiling)
    (lit : 0 < limitedFraction mode uMin ceiling force limit q c) :
    uMin ≤ limitedFraction mode uMin ceiling force limit q c := by
  unfold limitedFraction at *
  split_ifs at *
  · exact floor
  · exact uMin_le_drivenFraction low lit

theorem limitedFraction_le_ceiling (active : limit = true) :
    limitedFraction mode uMin ceiling force limit q c ≤ ceiling := by
  unfold limitedFraction
  split_ifs with cut
  · exact le_rfl
  · exact Nat.le_of_not_lt fun above => cut ⟨active, above⟩

end Fraction

/-- R105: the stage as the one computation writes it. -/
theorem stageOutput_eq (mode : Rounding) {uMin : Nat} (ceiling : Nat) (force limit : Bool) (st : Stage) (low : uMin ≤ 10000) :
    stageOutput mode uMin ceiling force limit st = { st with
      u := limitedFraction mode uMin ceiling force limit st.q st.capacity
      shortfall := if IsDark st.q st.capacity ∨ IsShort mode st.q st.capacity then st.q - st.capacity else 0
      flags := ⟨decide (IsShort mode st.q st.capacity), decide (IsDark st.q st.capacity),
        decide (IsLimited mode uMin ceiling force limit st.q st.capacity),
        decide (IsMinHeld mode uMin st.q st.capacity ∧ force = false), force⟩ } := by
  simp only [stageOutput, fractionFromDemand_eq low]
  cases force <;> simp [limitedFraction, IsLimited, drivenFraction]

/-! ### A portal's output and its recomputation (R105, R113) -/

section Portal

/-- The stages of a portal after their output computations. -/
def outputStages (s : State) (p : Fin 4) : Tbl Stage 8 :=
  (s.portals.get p).stages.mapIdx fun j st =>
    if inUse s p j then
      stageOutput s.settings.compute.mode (s.settings.portals.get p).uMin s.settings.compute.ceiling (forceActive s p)
        (limitActive s p) st
    else st

/-- Some stage in use gains a flag (R105). -/
abbrev GainsFlag (s : State) (p : Fin 4) (flag : StageFlags → Bool) : Prop :=
  ∃ j : Fin 8, j.val < (s.settings.portals.get p).stageCount ∧ flag ((outputStages s p).get j).flags = true ∧
    flag ((s.portals.get p).stages.get j).flags = false

variable (s : State) (p : Fin 4)

theorem outputStages_get (j : Fin 8) : (outputStages s p).get j =
    if j.val < (s.settings.portals.get p).stageCount then
      stageOutput s.settings.compute.mode (s.settings.portals.get p).uMin s.settings.compute.ceiling (forceActive s p)
        (limitActive s p) ((s.portals.get p).stages.get j)
    else (s.portals.get p).stages.get j := by
  simp only [outputStages, Tbl.get_mapIdx, inUse, decide_eq_true_eq]

theorem any_gains_eq (flag : StageFlags → Bool) :
    ((List.finRange 8).any fun j => inUse s p j && flag ((outputStages s p).get j).flags &&
      !flag ((s.portals.get p).stages.get j).flags) = decide (GainsFlag s p flag) := by
  rw [Bool.eq_iff_iff, List.any_eq_true, decide_eq_true_eq]
  simp only [List.mem_finRange, true_and, inUse, Bool.and_eq_true, decide_eq_true_eq, Bool.not_eq_true', and_assoc, GainsFlag]

theorem outputPass_eq : outputPass p s =
    reportIf (decide (GainsFlag s p (·.short))) (.pShort p) (reportIf (decide (GainsFlag s p (·.dark))) (.pDark p)
      (putPortal p { s.portals.get p with stages := outputStages s p } s)) := by
  rw [← any_gains_eq, ← any_gains_eq]
  rfl

variable {s p}

theorem recompute_of_updated (updated : (s.portals.get p).updated = true) :
    recompute p s = levelPass p (outputPass p s) :=
  congrArg (levelPass p <| outputPass p ·) (if_pos updated)

theorem recompute_of_not_updated (fresh : (s.portals.get p).updated = false) :
    recompute p s = levelPass p (outputPass p (capacityPass p s)) :=
  congrArg (levelPass p <| outputPass p ·) (if_neg (Bool.eq_false_iff.mp fresh))

end Portal

/-- Settles O40: the whole stage after its computation with its bounds, the portal's pass with its reports, and the two recomputations. -/
theorem outputFractionRule : Obligations.OutputFractionRule := by
  refine ⟨fun mode uMin ceiling force limit st low floor top => ?_,
    fun s p => ⟨⟨outputStages s p, outputStages_get s p, outputPass_eq s p⟩, recompute_of_updated, recompute_of_not_updated⟩⟩
  have within : uMin ≤ 10000 := low.trans (by decide)
  have after := stageOutput_eq mode ceiling force limit st within
  refine ⟨after, ?_, ?_, ?_, ?_⟩
  all_goals rw [after]
  · exact limitedFraction_le within top
  · exact uMin_le_limitedFraction within (low.trans floor)
  · exact limitedFraction_le_ceiling
  · exact shortfall_pos_iff

end Sys2Proof.Machine
end

/-! PROOFS. The event flags and the fault output (R172 to R176): a flag's position bit by bit, the forming of the output, the effect of a
report, the verdicts of SET_MASK and CLEAR_EVENTS, and O52. -/
section
namespace Sys2Proof.Machine

open Sys2Proof

/-! ### A flag at its position (R172) -/

theorem getLsbD_flagBit (e : Event) (i : Fin 48) : (flagBit e).getLsbD i.val = true ↔ i.val = flagPosition e := by
  rw [flagBit, ← BitVec.twoPow_eq, BitVec.getLsbD_twoPow, Bool.and_eq_true, decide_eq_true_eq, decide_eq_true_eq, eq_comm,
    and_iff_right_of_imp fun at_i => at_i ▸ i.isLt]

theorem getLsbD_or_flagBit (flags : BitVec 48) (e : Event) (i : Fin 48) :
    (flags ||| flagBit e).getLsbD i.val = if i.val = flagPosition e then true else flags.getLsbD i.val := by
  rw [BitVec.getLsbD_or]
  split_ifs with named
  · rw [(getLsbD_flagBit e i).mpr named, Bool.or_true]
  · rw [Bool.eq_false_iff.mpr (mt (getLsbD_flagBit e i).mp named), Bool.or_false]

theorem getLsbD_and_not (flags mask : BitVec 48) (i : Fin 48) :
    (flags &&& ~~~mask).getLsbD i.val = (flags.getLsbD i.val && !mask.getLsbD i.val) := by
  rw [BitVec.getLsbD_and, BitVec.getLsbD_not, decide_eq_true i.isLt, Bool.true_and]

/-! ### The fault output (R174) -/

/-- Some set flag is not masked: the condition that asserts the fault output. -/
abbrev UnmaskedFlag (flags mask : BitVec 48) : Prop :=
  ∃ i : Fin 48, flags.getLsbD i.val = true ∧ mask.getLsbD i.val = false

theorem and_not_eq_zero_iff (flags mask : BitVec 48) : flags &&& ~~~mask = 0#48 ↔ ¬ UnmaskedFlag flags mask := by
  rw [BitVec.eq_of_getLsbD_eq_iff, not_exists, Fin.forall_iff]
  refine forall₂_congr fun i inside => ?_
  rw [getLsbD_and_not flags mask ⟨i, inside⟩, BitVec.getLsbD_zero, ← Bool.not_eq_true, Bool.and_eq_true, Bool.not_eq_true']

theorem faultOutputOf_eq (flags mask : BitVec 48) [Decidable (UnmaskedFlag flags mask)] :
    faultOutputOf flags mask = if UnmaskedFlag flags mask then .released else .conducting := by
  rw [faultOutputOf, if_congr (and_not_eq_zero_iff flags mask) rfl rfl, ite_not]

theorem withFlags_eq (flags : BitVec 48) (s : State) [Decidable (UnmaskedFlag flags s.settings.mask)] :
    withFlags flags s =
      { s with events := ⟨flags, if UnmaskedFlag flags s.settings.mask then .released else .conducting⟩ } := by
  rw [← faultOutputOf_eq, withFlags]

/-! ### The commands of the flags (R175, R176) -/

theorem exec_setMask_of_writing {s : State} (heard : hears s = true) (mask : BitVec 48) (writing : storeWriting s = true) :
    exec (.setMask mask) s = .next (refusedAs s .busy) :=
  command_refused heard (dest := .station) (take := takeSetMask mask) (if_pos writing)

theorem exec_setMask_of_not_writing {s : State} (heard : hears s = true) (mask : BitVec 48) (free : ¬ storeWriting s = true) :
    exec (.setMask mask) s = .next (takenAs s
      (withFlags s.events.flags { closeWindow s with settings := { s.settings with mask := mask } }) []) :=
  command_taken heard (dest := .station) (take := takeSetMask mask) (if_neg free)

theorem exec_clearEvents {s : State} (heard : hears s = true) (mask : BitVec 48) :
    exec (.clearEvents mask) s = .next (takenAs s
      (withFlags (s.events.flags &&& ~~~mask) (closeWindow s)) (maskBytes6 (s.events.flags &&& ~~~mask))) :=
  command_taken heard (dest := .station) (take := takeClearEvents mask) rfl

/-- Settles O52: the table of 9.1 event by event, and each operation's flags and output by the lemmas above. -/
theorem maskAndFlagCommands : Obligations.MaskAndFlagCommands := by
  refine ⟨fun e => ?_, fun s heard => ⟨fun mask => ?_, fun mask => ?_⟩⟩
  · intro position
    have table : position = flagPosition e := by cases e <;> rfl
    rw [table]
    exact ⟨getLsbD_flagBit e, fun s => ⟨s.events.flags ||| flagBit e, getLsbD_or_flagBit s.events.flags e, withFlags_eq _ s⟩⟩
  · split_ifs with writing
    · exact exec_setMask_of_writing heard mask writing
    · rw [exec_setMask_of_not_writing heard mask writing, withFlags_eq]
  · refine ⟨s.events.flags &&& ~~~mask, getLsbD_and_not s.events.flags mask, ?_⟩
    rw [exec_clearEvents heard, withFlags_eq]
    rfl

end Sys2Proof.Machine
end

/-! PROOFS. What every change of the state keeps (O54 to O59): the conditions of a run gathered in one relation, `Keeps`, which chains, with
one rule for each part of the state that a change may write. -/
section
namespace Sys2Proof.Machine

open Sys2Proof

/-! ### Conditions of one record -/

/-- R188 for one line unit: it drives the frame of its transaction in the FORWARD phase, and nothing otherwise. -/
def LineUnit.Drives (u : LineUnit) : Prop :=
  u.driving =
    match u.inFlight with
    | some t => if t.phase = .forward then some (frameOf t.kind t.target) else none
    | none => none

theorem drivesForward_iff (s : State) : DrivesForward s ↔ ∀ l, (s.lines.get l).Drives := Iff.rfl

/-- What a change of a line unit has to keep. -/
structure LineUnit.Keeps (u v : LineUnit) : Prop where
  keyed : OnePerAddress u.queue → OnePerAddress v.queue
  drives : u.Drives → v.Drives

/-- No other slot holds the line and address of an entry, or the entry is FREE. -/
def Unconflicted (slots : Tbl Entry 256) (k : Fin 256) (e : Entry) : Prop :=
  e.state ≠ .free → ∀ j, j ≠ k → (slots.get j).state ≠ .free → ¬((slots.get j).line = e.line ∧ (slots.get j).address = e.address)

theorem DistinctChannels.set {slots : Tbl Entry 256} {k : Fin 256} {e : Entry} (distinct : DistinctChannels slots)
    (clear : Unconflicted slots k e) : DistinctChannels (slots.set k e) := by
  intro i j
  rw [Tbl.get_set, Tbl.get_set]
  split_ifs with hi hj hj
  · exact fun _ _ _ _ => hi.symm.trans hj
  · exact fun held other line address => absurd ⟨line.symm, address.symm⟩ (clear held j (Ne.symm hj) other)
  · exact fun other held line address => absurd ⟨line, address⟩ (clear held i (Ne.symm hi) other)
  · exact distinct i j

/-- An entry that keeps the line and address its slot held meets no other. -/
theorem DistinctChannels.unconflicted {slots : Tbl Entry 256} {k : Fin 256} {e : Entry} (distinct : DistinctChannels slots)
    (held : (slots.get k).state ≠ .free) (line : e.line = (slots.get k).line) (address : e.address = (slots.get k).address) :
    Unconflicted slots k e := fun _ j other taken same =>
  other (distinct j k taken held (same.1.trans line) (same.2.trans address))

/-- A change of every entry that takes no FREE slot and moves no entry. -/
structure KeepsChannel (f : Entry → Entry) : Prop where
  free : ∀ e : Entry, e.state = .free → (f e).state = .free
  line : ∀ e : Entry, (f e).state ≠ .free → (f e).line = e.line
  address : ∀ e : Entry, (f e).state ≠ .free → (f e).address = e.address

theorem DistinctChannels.map {slots : Tbl Entry 256} {f : Entry → Entry} (distinct : DistinctChannels slots) (kept : KeepsChannel f) :
    DistinctChannels (slots.map f) := by
  intro i j hi hj
  simp only [Tbl.get_map] at *
  rw [kept.line _ hi, kept.line _ hj, kept.address _ hi, kept.address _ hj]
  exact distinct i j (mt (kept.free _) hi) (mt (kept.free _) hj)

/-- The conflict check (R5) finds no other slot. -/
theorem conflicts_eq_false_iff (s : State) (slot : Option (Fin 256)) (line : Fin 4) (address : Fin 64) :
    conflicts s slot line address = false ↔
      ∀ j, some j ≠ slot → (entryAt s j).state ≠ .free → ¬((entryAt s j).line = line ∧ (entryAt s j).address = address) := by
  rw [conflicts, List.any_eq_false]
  constructor
  · intro none_found j other held same
    refine none_found (j, entryAt s j) (Tbl.mem_indexed.mpr rfl) ?_
    simp [other, held, same.1, same.2]
  · rintro clear ⟨j, e⟩ member found
    obtain rfl : entryAt s j = e := Tbl.mem_indexed.mp member
    simp only [Bool.and_eq_true, decide_eq_true_eq] at found
    obtain ⟨⟨⟨other, held⟩, line⟩, address⟩ := found
    exact clear j other held ⟨line, address⟩

/-! ### The relation -/

/-- What a change of the state from `s` to `t` keeps: each condition of a run that held before it holds after it. `fits` is what the
ranges rest on beside the state: that the command's fields fit their message (R186). `ended` is what alone completes the record: a write's matching
read-back (R181). -/
structure Keeps (fits ended : Prop) (s t : State) : Prop where
  pending : t.pending = s.pending
  channels : RosterDistinct s → RosterDistinct t
  queues : QueuesKeyed s → QueuesKeyed t
  drives : DrivesForward s → DrivesForward t
  output : OutputFormed s → OutputFormed t
  descends : EntrancesDescend s → EntrancesDescend t
  ranges : fits → RangesHold s → RangesHold t
  window : WindowBounded s → WindowBounded t
  entries : fits → RangesHold s → EntriesInRange s → EntriesInRange t
  unfinished : UnfinishedIsBad s → UnfinishedIsBad t
  record : ¬ended → s.store.complete = false → t.store.complete = false

section Rules

variable {fits ended : Prop} {s t r : State}

theorem Keeps.refl : Keeps fits ended s s :=
  ⟨rfl, id, id, id, id, id, fun _ => id, id, fun _ _ => id, id, fun _ => id⟩

theorem Keeps.trans (first : Keeps fits ended s t) (second : Keeps fits ended t r) : Keeps fits ended s r where
  pending := second.pending.trans first.pending
  channels := second.channels ∘ first.channels
  queues := second.queues ∘ first.queues
  drives := second.drives ∘ first.drives
  output := second.output ∘ first.output
  descends := second.descends ∘ first.descends
  ranges := fun fit ranges => second.ranges fit (first.ranges fit ranges)
  window := second.window ∘ first.window
  entries := fun fit ranges entries => second.entries fit (first.ranges fit ranges) (first.entries fit ranges entries)
  unfinished := second.unfinished ∘ first.unfinished
  record := fun other => second.record other ∘ first.record other

theorem Keeps.ite {c : Prop} [Decidable c] (yes : c → Keeps fits ended s t) (no : ¬c → Keeps fits ended s r) :
    Keeps fits ended s (if c then t else r) := by
  split_ifs with h
  · exact yes h
  · exact no h

/-- A run of changes, one for each element of a list. -/
theorem Keeps.foldl {α : Type} {change : State → α → State} (kept : ∀ s a, Keeps fits ended s (change s a)) (list : List α) (s : State) :
    Keeps fits ended s (list.foldl change s) := by
  induction list generalizing s with
  | nil => exact .refl
  | cons a rest ih => exact (kept s a).trans (ih _)

/-- The slots written, under the settings as they stand. -/
theorem Keeps.of_slots {slots : Tbl Entry 256} (distinct : DistinctChannels s.roster.slots → DistinctChannels slots)
    (inRange : fits → RangesHold s → (∀ k, (entryAt s k).InRange s.settings.missLimit) →
      ∀ k, (slots.get k).InRange s.settings.missLimit) :
    Keeps fits ended s { s with roster := { s.roster with slots := slots } } where
  pending := rfl
  channels := fun ⟨roster, store⟩ => ⟨distinct roster, store⟩
  queues := id
  drives := id
  output := id
  descends := id
  ranges := fun _ => id
  window := id
  entries := fun fit ranges ⟨roster, store⟩ => ⟨inRange fit ranges roster, store⟩
  unfinished := id
  record := fun _ => id

/-- One slot written. -/
theorem Keeps.putEntry {k : Fin 256} {e : Entry} (clear : DistinctChannels s.roster.slots → Unconflicted s.roster.slots k e)
    (inRange : fits → RangesHold s → (entryAt s k).InRange s.settings.missLimit → e.InRange s.settings.missLimit) :
    Keeps fits ended s (putEntry k e s) :=
  .of_slots (fun distinct => distinct.set (clear distinct)) fun fit ranges before j => by
    rw [Tbl.get_set]
    split_ifs with same
    · exact inRange fit ranges (before k)
    · exact before j

/-- One slot's entry written over, at the line and address it holds. -/
theorem Keeps.rewrite {k : Fin 256} {e : Entry} (held : (entryAt s k).state ≠ .free) (line : e.line = (entryAt s k).line)
    (address : e.address = (entryAt s k).address)
    (inRange : fits → RangesHold s → (entryAt s k).InRange s.settings.missLimit → e.InRange s.settings.missLimit) :
    Keeps fits ended s (Machine.putEntry k e s) :=
  .putEntry (fun distinct => distinct.unconflicted held line address) inRange

/-- Every slot's entry changed in place. -/
theorem Keeps.map_slots {f : Entry → Entry} (kept : KeepsChannel f)
    (inRange : RangesHold s → ∀ e : Entry, e.InRange s.settings.missLimit → (f e).InRange s.settings.missLimit) :
    Keeps fits ended s { s with roster := { s.roster with slots := s.roster.slots.map f } } :=
  .of_slots (fun distinct => distinct.map kept) fun _ ranges before k => by
    rw [Tbl.get_map]
    exact inRange ranges _ (before k)

theorem Keeps.mark {k : Fin 256} : Keeps fits ended s (mark k s) :=
  ⟨rfl, id, id, id, id, id, fun _ => id, id, fun _ _ => id, id, fun _ => id⟩

theorem Keeps.markIf {b : Bool} {k : Fin 256} : Keeps fits ended s (markIf b k s) :=
  .ite (fun _ => .mark) fun _ => .refl

theorem Keeps.clearMarks {mask : BitVec 32} :
    Keeps fits ended s { s with roster := { s.roster with marks := s.roster.marks &&& ~~~mask } } :=
  ⟨rfl, id, id, id, id, id, fun _ => id, id, fun _ _ => id, id, fun _ => id⟩

theorem Keeps.closeWindow : Keeps fits ended s (closeWindow s) :=
  ⟨rfl, id, id, id, id, id, fun _ => id, fun _ _ opened => (by cases opened), fun _ _ => id, id, fun _ => id⟩

theorem Keeps.withWindow {w : Window} (bounded : WindowBounded s → w.first ≤ w.cursor ∧ w.cursor ≤ w.last + 1 ∧ w.last ≤ 255) :
    Keeps fits ended s (withWindow w s) :=
  ⟨rfl, id, id, id, id, id, fun _ => id, fun before _ opened => (by cases opened; exact bounded before),
    fun _ _ => id, id, fun _ => id⟩

theorem Keeps.withScanner {f : Scanner → Scanner} : Keeps fits ended s (withScanner f s) :=
  ⟨rfl, id, id, id, id, id, fun _ => id, id, fun _ _ => id, id, fun _ => id⟩

theorem Keeps.withOverrides {o : Overrides} : Keeps fits ended s { s with overrides := o } :=
  ⟨rfl, id, id, id, id, id, fun _ => id, id, fun _ _ => id, id, fun _ => id⟩

theorem Keeps.ageTick {timer : Timer} : Keeps fits ended s { s with roster := { s.roster with ageTick := timer } } :=
  ⟨rfl, id, id, id, id, id, fun _ => id, id, fun _ _ => id, id, fun _ => id⟩

/-- The flags of a powered part written, with the output formed afresh (R174). -/
theorem Keeps.withFlags {flags : BitVec 48} (powered : s.powered = true) : Keeps fits ended s (withFlags flags s) :=
  ⟨rfl, id, id, id, fun _ => (if_pos powered).symm, id, fun _ => id, id, fun _ _ => id, id, fun _ => id⟩

theorem Keeps.report {e : Event} (powered : s.powered = true) : Keeps fits ended s (report e s) :=
  .withFlags powered

theorem Keeps.reportIf {b : Bool} {e : Event} (powered : s.powered = true) : Keeps fits ended s (reportIf b e s) :=
  .ite (fun _ => .report powered) fun _ => .refl

/-- One line unit changed. -/
theorem Keeps.modifyLine {l : Fin 4} {f : LineUnit → LineUnit} (kept : LineUnit.Keeps (s.lines.get l) (f (s.lines.get l))) :
    Keeps fits ended s (modifyLine l f s) where
  pending := rfl
  channels := id
  queues := fun keyed j => by
    rw [modifyLine_lines, Tbl.get_modify]
    split_ifs with same
    · exact same ▸ kept.keyed (keyed l)
    · exact keyed j
  drives := fun drives => (drivesForward_iff _).mpr fun j => by
    rw [modifyLine_lines, Tbl.get_modify]
    split_ifs with same
    · exact same ▸ kept.drives (drives l)
    · exact drives j
  output := id
  descends := id
  ranges := fun _ => id
  window := id
  entries := fun _ _ => id
  unfinished := id
  record := fun _ => id

/-- One portal's configuration and live record written together. -/
theorem Keeps.portal {p : Fin 4} {f : PortalConfig → PortalConfig} {g : PortalLive → PortalLive}
    (descends : StagesDescend (s.settings.portals.get p) (s.portals.get p) →
      StagesDescend (f (s.settings.portals.get p)) (g (s.portals.get p)))
    (inRange : (s.settings.portals.get p).InRange → (f (s.settings.portals.get p)).InRange) :
    Keeps fits ended s (modifyPortal p g (modifyPortalConfig p f s)) where
  pending := rfl
  channels := id
  queues := id
  drives := id
  output := id
  descends := fun before j => by
    simp only [modifyPortal_portals, modifyPortal_settings, modifyPortalConfig_settings, modifyPortalConfig_portals, Tbl.get_modify]
    split_ifs with same
    · exact same ▸ descends (before p)
    · exact before j
  ranges := fun _ ⟨waiting, ⟨channels, scan, portals, others⟩, stored⟩ => by
    refine ⟨waiting, ⟨channels, scan, fun j => ?_, others⟩, stored⟩
    simp only [modifyPortal_settings, modifyPortalConfig_settings, Tbl.get_modify]
    split_ifs with same
    · exact same ▸ inRange (portals p)
    · exact portals j
  window := id
  entries := fun _ _ => id
  unfinished := id
  record := fun _ => id

/-- One portal's live record written. -/
theorem Keeps.modifyPortal {p : Fin 4} {g : PortalLive → PortalLive}
    (descends : StagesDescend (s.settings.portals.get p) (s.portals.get p) →
      StagesDescend (s.settings.portals.get p) (g (s.portals.get p))) :
    Keeps fits ended s (modifyPortal p g s) where
  pending := rfl
  channels := id
  queues := id
  drives := id
  output := id
  descends := fun before j => by
    simp only [modifyPortal_portals, modifyPortal_settings, Tbl.get_modify]
    split_ifs with same
    · exact same ▸ descends (before p)
    · exact before j
  ranges := fun _ => id
  window := id
  entries := fun _ _ => id
  unfinished := id
  record := fun _ => id

/-- A portal's configuration written with the stage count as it stands. -/
theorem Keeps.modifyPortalConfig {p : Fin 4} {f : PortalConfig → PortalConfig}
    (count : (f (s.settings.portals.get p)).stageCount = (s.settings.portals.get p).stageCount)
    (inRange : (s.settings.portals.get p).InRange → (f (s.settings.portals.get p)).InRange) :
    Keeps fits ended s (modifyPortalConfig p f s) := by
  have both : Machine.modifyPortal p id (Machine.modifyPortalConfig p f s) = Machine.modifyPortalConfig p f s := by
    unfold Machine.modifyPortal Tbl.modify
    rw [id, Tbl.set_get_self]
  rw [← both]
  exact .portal (fun before i j next used => before i j next (count ▸ used)) inRange

/-- The settings that no other condition reads written. -/
theorem Keeps.settings {g : Settings} (portals : g.portals = s.settings.portals) (mask : g.mask = s.settings.mask)
    (limit : g.missLimit = s.settings.missLimit) (inRange : fits → RangesHold s → g.InRange) :
    Keeps fits ended s { s with settings := g } where
  pending := rfl
  channels := id
  queues := id
  drives := id
  output := fun formed => by simpa only [OutputFormed, mask] using formed
  descends := fun before => by simpa only [EntrancesDescend, portals] using before
  ranges := fun fit before => ⟨before.1, inRange fit before, before.2.2⟩
  window := id
  entries := fun _ _ before => by simpa only [EntriesInRange, entryAt, limit] using before
  unfinished := id
  record := fun _ => id

/-- The link unit's state written: what it holds back is in range. -/
theorem Keeps.withLink {k : Link}
    (held : RangesHold s → ∀ r held, k.receive = .turnaround r held ∨ k.receive = .sending r held → held.InRange) :
    Keeps fits ended s (withLink k s) :=
  ⟨rfl, id, id, id, id, id, fun _ before => ⟨before.1, before.2.1, before.2.2.1, before.2.2.2.1, held before⟩, id, fun _ _ => id, id, fun _ => id⟩

end Rules

end Sys2Proof.Machine
end

/-! PROOFS. What the shared operations keep (O54 to O59): the level queues and the next transaction, the passes of a portal's output, the
reports of the line units, and the resets. -/
section
namespace Sys2Proof.Machine

open Sys2Proof

/-! ### A line unit's record -/

/-- A line unit with another queue. -/
theorem LineUnit.Keeps.queue {u : LineUnit} {queue : List Request} (keyed : OnePerAddress u.queue → OnePerAddress queue) :
    LineUnit.Keeps u { u with queue := queue } := ⟨keyed, id⟩

/-- A line unit that drives nothing and has no frame in flight. -/
theorem LineUnit.Keeps.silent {u v : LineUnit} (keyed : OnePerAddress u.queue → OnePerAddress v.queue) (driving : v.driving = none)
    (quiet : ∀ t, v.inFlight = some t → t.phase ≠ .forward) : LineUnit.Keeps u v := by
  refine ⟨keyed, fun _ => ?_⟩
  unfold LineUnit.Drives
  rw [driving]
  split
  next t flight => rw [if_neg (quiet t flight)]
  next => rfl

/-- A line unit with nothing in flight. -/
theorem LineUnit.Keeps.cut {u v : LineUnit} (keyed : OnePerAddress u.queue → OnePerAddress v.queue) (driving : v.driving = none)
    (flight : v.inFlight = none) : LineUnit.Keeps u v :=
  .silent keyed driving fun t started => by rw [flight] at started; cases started

/-- A transaction started is driven. -/
theorem LineUnit.Keeps.start {u v w : LineUnit} {kind : TransactionKind} {target : Option (Fin 256 × Fin 64)}
    (keyed : OnePerAddress u.queue → OnePerAddress w.queue) (started : w.queue = v.queue ∧ w.driving = (startTransaction kind target v).driving
      ∧ w.inFlight = (startTransaction kind target v).inFlight) : LineUnit.Keeps u w := by
  obtain ⟨-, driving, flight⟩ := started
  refine ⟨keyed, fun _ => ?_⟩
  rw [LineUnit.Drives, driving, flight]
  rfl

theorem OnePerAddress.sublist {queue rest : List Request} (keyed : OnePerAddress queue) (part : rest.Sublist queue) :
    OnePerAddress rest := List.Nodup.sublist (part.map _) keyed

theorem OnePerAddress.nil : OnePerAddress [] := List.nodup_nil

theorem queuedFor_iff (address : Fin 64) (queue : List Request) :
    queuedFor address queue = true ↔ ∃ r ∈ queue, r.address = address := by
  simp [queuedFor]

theorem queuedFor_eq_false_iff (address : Fin 64) (queue : List Request) :
    queuedFor address queue = false ↔ ∀ r ∈ queue, r.address ≠ address := by
  simp [queuedFor]

theorem OnePerAddress.cons {queue : List Request} {r : Request} (keyed : OnePerAddress queue)
    (absent : queuedFor r.address queue = false) : OnePerAddress (r :: queue) := by
  refine List.nodup_cons.mpr ⟨fun member => ?_, keyed⟩
  obtain ⟨other, queued, same⟩ := List.mem_map.mp member
  exact (queuedFor_eq_false_iff _ _).mp absent other queued same

theorem OnePerAddress.concat {queue : List Request} {r : Request} (keyed : OnePerAddress queue)
    (absent : queuedFor r.address queue = false) : OnePerAddress (queue ++ [r]) := by
  rw [OnePerAddress, List.map_append]
  refine List.nodup_append_comm.mp (keyed.cons absent)

/-- A replacement keeps the address (R134). -/
theorem replaceRequest_address {new old : Request} (same : old.address = new.address) :
    (replaceRequest new old).address = old.address := by
  unfold replaceRequest
  split <;> simp only [same]

/-- The addresses of a queue after a request arrives at one queued for its address. -/
theorem map_address_enqueue {new : Request} {queue : List Request} (queued : queuedFor new.address queue = true) :
    (enqueue new queue).map (·.address) = queue.map (·.address) := by
  rw [enqueue, if_pos queued, List.map_map]
  refine List.map_congr_left fun old _ => ?_
  simp only [Function.comp]
  split_ifs with same
  · exact replaceRequest_address same
  · rfl

theorem OnePerAddress.enqueue {queue : List Request} (keyed : OnePerAddress queue) (new : Request) :
    OnePerAddress (enqueue new queue) := by
  by_cases queued : queuedFor new.address queue = true
  · rwa [OnePerAddress, map_address_enqueue queued]
  · rw [Machine.enqueue, if_neg queued]
    exact keyed.concat (Bool.eq_false_iff.mpr queued)

section Operations

variable {fits ended : Prop} {s : State}

/-! ### The level queue and the next transaction -/

theorem keeps_hand {l : Fin 4} {r : Request} : Keeps fits ended s (hand l r s) :=
  .ite (fun _ => .modifyLine (.queue (·.enqueue r))) fun _ => .refl

theorem keeps_handLevel {l : Fin 4} {k : Fin 256} {a : Fin 64} {code : Nat} : Keeps fits ended s (handLevel l k a code s) := keeps_hand

theorem keeps_handOptional {l : Fin 4} {k : Fin 256} {a : Fin 64} {code : Option Nat} :
    Keeps fits ended s (handOptional l k a code s) := by
  cases code with
  | none => exact .refl
  | some c => exact keeps_handLevel

theorem keeps_withdraw {l : Fin 4} {a : Fin 64} : Keeps fits ended s (withdraw l a s) :=
  .modifyLine (.queue (·.sublist List.filter_sublist))

theorem keeps_startPoll {l : Fin 4} : Keeps fits ended s (startPoll l s) := by
  unfold startPoll
  split
  · exact .modifyLine (.start id ⟨rfl, rfl, rfl⟩)
  · exact .refl

theorem keeps_consider {l : Fin 4} : Keeps fits ended s (consider l s) := by
  refine .ite (fun _ => ?_) fun _ => .refl
  split
  next => exact keeps_startPoll
  next r rest waiting =>
    refine .ite (fun _ => .modifyLine (.start (v := { s.lines.get l with queue := rest }) (fun keyed => ?_) ⟨rfl, rfl, rfl⟩))
      fun _ => keeps_startPoll
    exact (waiting ▸ keyed).sublist (List.sublist_cons_self r rest)

theorem keeps_considerAll : Keeps fits ended s (considerAll s) :=
  keeps_consider.trans (keeps_consider.trans (keeps_consider.trans keeps_consider))

/-! ### A portal's output -/

/-- The commanded luminances alone decide whether the stages descend. -/
theorem StagesDescend.of_q_eq {c : PortalConfig} {before after : PortalLive}
    (same : ∀ j, (after.stages.get j).q = (before.stages.get j).q) (descends : StagesDescend c before) : StagesDescend c after := by
  intro i j next used
  rw [same i, same j]
  exact descends i j next used

theorem stageOutput_q (mode : Rounding) (uMin ceiling : Nat) (force limit : Bool) (st : Stage) :
    (stageOutput mode uMin ceiling force limit st).q = st.q := rfl

theorem keeps_capacityPass {p : Fin 4} : Keeps fits ended s (capacityPass p s) :=
  .modifyPortal (.of_q_eq fun j => by
    rw [Tbl.get_mapIdx]
    split_ifs <;> rfl)

theorem keeps_outputPass {p : Fin 4} (powered : s.powered = true) : Keeps fits ended s (outputPass p s) := by
  refine (Keeps.modifyPortal (.of_q_eq fun j => ?_)).trans ((Keeps.reportIf ?_).trans (.reportIf ?_))
  · rw [Tbl.get_mapIdx]
    split_ifs
    · exact stageOutput_q ..
    · rfl
  · exact powered
  · rw [reportIf_powered]
    exact powered

/-- A curve in range holds no code above 1,023 (R106). -/
theorem Curve.InRange.get_le {curve : Curve} (inRange : Curve.InRange curve) (i : Fin 17) : curve.get i ≤ 1023 := by
  obtain ⟨-, top, rising⟩ := inRange
  have below : ∀ n, (h : n ≤ 16) → curve.get ⟨16 - n, by omega⟩ ≤ curve.get 16 := by
    intro n
    induction n with
    | zero => exact fun _ => le_rfl
    | succ n ih => exact fun h => ((rising ⟨16 - (n + 1), by omega⟩ ⟨16 - n, by omega⟩ (by simp only; omega)).2).trans (ih (by omega))
  have here := below (16 - i.val) (by omega)
  rw [show (⟨16 - (16 - i.val), by omega⟩ : Fin 17) = i from Fin.ext (by simp only; omega)] at here
  exact here.trans top

/-- No level code exceeds 1,023 (R106, R107). -/
theorem codeOf_le (mode : Rounding) {curve : Curve} (inRange : Curve.InRange curve) (u : Nat) : codeOf mode curve u ≤ 1023 := by
  by_cases last : 16 ≤ u / 625
  · rw [codeOf_last mode curve last]
    exact inRange.get_le 16
  · have bounded := segmentCode_le mode curve (i := ⟨u / 625, by omega⟩) (j := ⟨u / 625 + 1, by omega⟩) rfl (inRange.2.2 _ _ rfl).2
    rw [codeOf_of_segment mode curve (i := ⟨u / 625, by omega⟩) (j := ⟨u / 625 + 1, by omega⟩) rfl rfl]
    have top := inRange.get_le ⟨u / 625 + 1, by omega⟩
    split_ifs <;> omega

theorem decidedLevel_le {limit : Nat} {e : Entry} (ranges : RangesHold s) (inRange : e.InRange limit) : decidedLevel s e ≤ 1023 := by
  obtain ⟨-, -, -, -, pin, -, level, -⟩ := inRange
  obtain ⟨-, ⟨-, -, -, curves, -⟩, -⟩ := ranges
  unfold decidedLevel
  split
  · exact Nat.zero_le _
  · exact Nat.zero_le _
  · exact level
  next code pinned _ _ _ => exact pin code pinned
  · split_ifs
    · exact codeOf_le _ (curves _) _
    · exact Nat.zero_le _

theorem keeps_writeLevels {p : Fin 4} : Keeps fits ended s (writeLevels p s) := by
  refine .map_slots ⟨fun e => ?_, fun e _ => ?_, fun e _ => ?_⟩ fun ranges e inRange => ?_
  · split_ifs <;> exact id
  · split_ifs <;> rfl
  · split_ifs <;> rfl
  · split_ifs with driven
    · have level := decidedLevel_le ranges inRange
      obtain ⟨free, q, age, sub, pin, miss, -, confirmed, unreachable⟩ := inRange
      have active : e.state = .active := by
        simp only [drivenBy, Bool.and_eq_true, decide_eq_true_eq] at driven
        exact driven.2
      exact ⟨fun idle => absurd (active.symm.trans idle) (by decide), q, age, sub, pin, miss, level, confirmed, unreachable⟩
    · exact inRange

theorem keeps_levelPass {p : Fin 4} : Keeps fits ended s (levelPass p s) :=
  keeps_writeLevels.trans (.foldl (fun _ _ => .ite (fun _ => keeps_handLevel) fun _ => .refl) _ _)

theorem keeps_recompute {p : Fin 4} (powered : s.powered = true) : Keeps fits ended s (recompute p s) := by
  by_cases updated : (s.portals.get p).updated = true
  · rw [recompute_of_updated updated]
    exact (keeps_outputPass powered).trans keeps_levelPass
  · rw [recompute_of_not_updated (Bool.eq_false_iff.mpr updated)]
    exact keeps_capacityPass.trans ((keeps_outputPass ((capacityPass_powered p s).trans powered)).trans keeps_levelPass)

theorem keeps_recomputeLimited (powered : s.powered = true) : Keeps fits ended s (recomputeLimited s) := by
  unfold recomputeLimited
  generalize List.finRange 4 = portals
  have run : ∀ acc : State, acc.powered = true →
      Keeps fits ended acc (portals.foldl (fun acc p => if limitActive s p then recompute p acc else acc) acc) := by
    induction portals with
    | nil => exact fun _ _ => .refl
    | cons p rest ih =>
      intro acc on
      rw [List.foldl_cons]
      split_ifs
      · exact (keeps_recompute on).trans (ih _ ((recompute_powered p acc).trans on))
      · exact ih acc on
  exact run s powered

theorem keeps_settlePortal {before after : State} {p : Fin 4} (powered : s.powered = true) :
    Keeps fits ended s (settlePortal before after p s) :=
  .ite (fun _ => (Keeps.reportIf powered).trans (keeps_recompute ((reportIf_powered ..).trans powered))) fun _ => .reportIf powered

theorem keeps_settleConditions {before after : State} (powered : after.powered = true) :
    Keeps fits ended after (settleConditions before after) := by
  refine (keeps_settlePortal powered).trans ((keeps_settlePortal ?_).trans ((keeps_settlePortal ?_).trans
    ((keeps_settlePortal ?_).trans keeps_considerAll)))
  all_goals simp only [settlePortal_powered, powered]

theorem keeps_changeOverrides {f : Overrides → Overrides} (powered : s.powered = true) : Keeps fits ended s (changeOverrides f s) :=
  Keeps.withOverrides.trans (keeps_settleConditions powered)

end Operations

/-! ### The update -/

theorem clampAfter_getD_le (outer : Nat) (values : List Nat) (i : Nat) :
    (clampAfter outer values).getD i 0 ≤ (outer :: clampAfter outer values).getD i 0 := by
  induction values generalizing outer i with
  | nil => exact Nat.zero_le _
  | cons x rest ih =>
    cases i with
    | zero => exact Nat.min_le_right x outer
    | succ i => exact ih (min x outer) i

/-- No value of a clamped list is above the one outside it, zeros beyond its end (R89). -/
theorem clampInward_getD_succ_le (values : List Nat) (i : Nat) :
    (clampInward values).getD (i + 1) 0 ≤ (clampInward values).getD i 0 := by
  cases values with
  | nil => exact le_rfl
  | cons x rest => exact clampAfter_getD_le x rest i

theorem requirements_getD_succ_le (mode : Rounding) (c : PortalConfig) (applied i : Nat) :
    (requirements mode c applied).getD (i + 1) 0 ≤ (requirements mode c applied).getD i 0 := by
  by_cases closed : c.role = .closed
  · rw [requirements_of_closed mode applied closed]
    simp [List.getD_eq_getElem?_getD, List.getElem?_replicate, apply_ite (Option.getD · 0)]
  · rw [requirements_of_open mode applied closed]
    exact clampInward_getD_succ_le _ i

theorem stagePass_descends (mode : Rounding) (c : PortalConfig) (live : PortalLive) : StagesDescend c (stagePass mode c live) := by
  intro i j next used
  have outer : i.val < c.stageCount := by omega
  rw [next] at used
  simp only [stagePass, Tbl.get_mapIdx, next, if_pos used, if_pos outer]
  exact clampInward_getD_succ_le _ i.val

theorem portalAtReset_descends (mode : Rounding) (c : PortalConfig) : StagesDescend c (portalAtReset mode c) := by
  intro i j next used
  have outer : i.val < c.stageCount := by omega
  rw [next] at used
  simp only [portalAtReset, Tbl.get_tabulate, next, if_pos used, if_pos outer, Stage.initial]
  exact requirements_getD_succ_le mode c _ i.val

section Update

variable {fits ended : Prop} {s : State}

theorem keeps_update {p : Fin 4} (powered : s.powered = true) : Keeps fits ended s (update p s) := by
  refine (Keeps.modifyPortal fun _ => ?_).trans ((Keeps.reportIf ?_).trans ((Keeps.reportIf ?_).trans ((Keeps.reportIf ?_).trans
    (keeps_capacityPass.trans ((keeps_outputPass ?_).trans keeps_levelPass)))))
  · exact stagePass_descends _ _ _
  all_goals simp only [capacityPass_powered, reportIf_powered, modifyPortal_powered, powered]

end Update

end Sys2Proof.Machine
end

/-! PROOFS. What the reports of the line units, the events of a line and the resets keep (O54 to O59). -/
section
namespace Sys2Proof.Machine

open Sys2Proof

section Reports

variable {fits ended : Prop} {s : State} {l : Fin 4} {k : Fin 256} {a : Fin 64}

/-! ### Reports of the line units (1.4) -/

theorem reportMatches_iff (e : Entry) : reportMatches l a e = true ↔ e.state ≠ .free ∧ e.line = l ∧ e.address = a := by
  simp only [reportMatches, Bool.and_eq_true, decide_eq_true_eq, and_assoc]

theorem freed_inRange (limit : Nat) : Entry.freed.InRange limit :=
  ⟨fun _ => rfl, fun held => absurd rfl held, Nat.zero_le _, Nat.zero_le _, fun _ pinned => (by cases pinned), Nat.zero_le _,
    Nat.zero_le _, fun _ confirmed => (by cases confirmed), fun lost => (by cases lost)⟩

theorem keeps_freeSlot : Keeps fits ended s (freeSlot k s) :=
  (Keeps.putEntry (fun _ held => absurd rfl held) fun _ _ _ => freed_inRange _).trans .mark

/-- An entry as a valid reply leaves it stays in range (R10, R11, R14, R16). -/
theorem Entry.InRange.replied {limit : Nat} {e : Entry} (inRange : e.InRange limit) (held : e.state ≠ .free) (health : Health)
    {acknowledged : Option Nat} (level : ∀ code, acknowledged = some code → code ≤ 1023) :
    (replied health acknowledged e).InRange limit := by
  obtain ⟨-, q, age, sub, pin, -, set, confirmed, unreachable⟩ := inRange
  refine ⟨fun free => ?_, fun _ => q held, age, sub, pin, Nat.zero_le _, ?_, ?_, ?_⟩
  · simp only [Machine.replied] at free
    split_ifs at free
    exact absurd free held
  · have pinned : e.pin.getD e.setLevel ≤ 1023 := by
      cases found : e.pin with
      | none => exact set
      | some code => exact pin code found
    simp only [Machine.replied]
    split_ifs
    all_goals first | exact Nat.zero_le _ | exact pinned | exact set
  · intro code found
    cases acknowledged with
    | none => exact confirmed code found
    | some sent => exact level code found
  · intro lost
    simp only [Machine.replied] at lost ⊢
    split_ifs at lost ⊢ with verified
    exact unreachable lost

theorem replied_state_ne_free {health : Health} {v : Option Nat} {e : Entry} (held : e.state ≠ .free) :
    (replied health v e).state ≠ .free := by
  simp only [replied]
  split_ifs
  · exact nofun
  · exact held

theorem keeps_applyFlags {f : DriverFlags} {v : Option Nat} (powered : s.powered = true) (held : (entryAt s k).state ≠ .free)
    (level : ∀ code, v = some code → code ≤ 1023) : Keeps fits ended s (applyFlags l k a f v s) := by
  refine Keeps.trans (t := putEntry k (replied (healthOf f) v (entryAt s k)) s) ?_ (Keeps.markIf.trans
    ((Keeps.reportIf ?_).trans ((Keeps.reportIf ?_).trans keeps_handOptional)))
  · exact .rewrite held rfl rfl fun _ _ inRange => inRange.replied held _ level
  all_goals simp only [reportIf_powered, markIf_powered, putEntry_powered, powered]

theorem keeps_applyReply {kind : ReportKind} {f : DriverFlags} {v : Nat} (powered : s.powered = true) (level : v ≤ 1023) :
    Keeps fits ended s (applyReply kind l k a f v s) := by
  refine .ite (fun matching => ?_) fun _ => .refl
  obtain ⟨held, -, -⟩ := (reportMatches_iff _).mp matching
  cases kind with
  | level => exact keeps_applyFlags powered held fun code found => by cases found; exact level
  | status => exact keeps_applyFlags powered held nofun
  | ident =>
    refine .rewrite held rfl rfl fun _ _ ⟨free, q, age, sub, pin, _, rest⟩ => ?_
    exact ⟨fun absent => absurd absent held, q, age, sub, pin, Nat.zero_le _, rest⟩

theorem missed_le {limit count : Nat} (bounded : count ≤ limit) : missed limit count ≤ limit := by
  unfold missed
  split_ifs <;> omega

theorem Entry.InRange.reach {limit : Nat} {e : Entry} (inRange : e.InRange limit) :
    e.unreachable = true → e.state = .provisional ∨ e.state = .suspended := by
  obtain ⟨-, -, -, -, -, -, -, -, unreachable⟩ := inRange
  exact unreachable

/-- An entry after a miss, with the health and the reach it is left (R12, R13). -/
theorem Entry.InRange.missed {limit : Nat} {e : Entry} (inRange : e.InRange limit) (held : e.state ≠ .free) {health : Health}
    {unreachable : Bool} (reach : unreachable = true → e.state = .provisional ∨ e.state = .suspended) :
    Entry.InRange limit { e with miss := Machine.missed limit e.miss, health := health, unreachable := unreachable } := by
  obtain ⟨-, q, age, sub, pin, miss, set, confirmed, -⟩ := inRange
  exact ⟨fun absent => absurd absent held, q, age, sub, pin, missed_le miss, set, confirmed, reach⟩

theorem keeps_applyMiss (powered : s.powered = true) : Keeps fits ended s (applyMiss l k a s) := by
  refine .ite (fun matching => ?_) fun _ => .refl
  obtain ⟨held, -, -⟩ := (reportMatches_iff _).mp matching
  have counted : Keeps fits ended s (putEntry k { entryAt s k with miss := missed s.settings.missLimit (entryAt s k).miss } s) :=
    .rewrite held rfl rfl fun _ _ inRange => inRange.missed held inRange.reach
  refine .ite (fun provisional => .ite (fun _ => ?_) fun _ => counted) fun _ => .ite (fun _ => ?_) fun _ => counted
  · refine (Keeps.rewrite held ?_ ?_ ?_).trans (.report ?_)
    · rfl
    · rfl
    · exact fun _ _ inRange => inRange.missed held fun _ => .inl provisional
    · exact powered
  · refine (Keeps.rewrite held ?_ ?_ ?_).trans (Keeps.mark.trans (.report ?_))
    · rfl
    · rfl
    · exact fun _ _ inRange => inRange.missed held inRange.reach
    · exact powered

theorem keeps_releaseEnds : Keeps fits ended s (releaseEnds l k a s) :=
  .ite (fun _ => keeps_freeSlot) fun _ => .refl

theorem keeps_discardReleases {queue : List Request} : Keeps fits ended s (discardReleases l queue s) := by
  refine .foldl (fun s r => ?_) _ _
  cases r.kind with
  | release made => exact keeps_releaseEnds
  | level code => exact .refl
  | ident => exact .refl

theorem keeps_discardInFlight {t : Transaction} : Keeps fits ended s (discardInFlight l t s) := by
  unfold discardInFlight
  split
  · exact keeps_releaseEnds
  · exact .refl

theorem keeps_clearConfirmed : Keeps fits ended s (clearConfirmed l s) := by
  refine .map_slots ⟨fun e => ?_, fun e _ => ?_, fun e _ => ?_⟩ fun _ e inRange => ?_
  · split_ifs <;> exact id
  · split_ifs <;> rfl
  · split_ifs <;> rfl
  · split_ifs with cleared
    · obtain ⟨-, q, age, sub, pin, miss, set, -, unreachable⟩ := inRange
      exact ⟨fun absent => absurd absent cleared.1, q, age, sub, pin, miss, set, nofun, unreachable⟩
    · exact inRange

/-! ### The events of a line (7.1, 7.4 to 7.6) -/

theorem keeps_releaseOutcome {attempt : Nat} {reply : Reply} : Keeps fits ended s (releaseOutcome l k a attempt reply s) := by
  cases reply with
  | valid flags level => exact keeps_releaseEnds
  | miss =>
    refine .ite (fun _ => keeps_releaseEnds) fun _ => .ite (fun _ => .refl) fun absent => .modifyLine (.queue fun keyed => ?_)
    exact keyed.concat (Bool.eq_false_iff.mpr absent)

/-- The level in force that a reply carries is below 1,024 (R130). -/
def Reply.Bounded : Reply → Prop
  | .valid _ level => level ≤ 1023
  | .miss => True

theorem keeps_reportReply {kind : ReportKind} {reply : Reply} (powered : s.powered = true) (bounded : reply.Bounded) :
    Keeps fits ended s (reportReply kind l k a reply s) := by
  cases reply with
  | valid flags level => exact keeps_applyReply powered bounded
  | miss => exact keeps_applyMiss powered

theorem keeps_outcomeEffect {t : Transaction} {reply : Reply} (powered : s.powered = true) (bounded : reply.Bounded) :
    Keeps fits ended s (outcomeEffect l t reply s) := by
  unfold outcomeEffect
  split
  · exact keeps_reportReply powered bounded
  · exact keeps_reportReply powered bounded
  · exact keeps_reportReply powered bounded
  · exact keeps_releaseOutcome
  · exact .refl
  · exact .refl

theorem decodeReply_le {kind : TransactionKind} {signal : BackwardSignal} {flags : DriverFlags} {level : Nat}
    (decoded : decodeReply kind signal = some (flags, level)) : level ≤ 1023 := by
  simp only [decodeReply] at decoded
  split_ifs at decoded
  cases decoded
  exact Nat.le_of_lt_succ (signal.secondHalf.extractLsb' 1 10).isLt

theorem outcomeOf_bounded {t : Transaction} {received : Option BackwardSignal} {reply : Reply}
    (formed : outcomeOf t received = some reply) : reply.Bounded := by
  unfold outcomeOf at formed
  split at formed
  · split at formed
    next decoded =>
      cases formed
      exact decodeReply_le decoded
    next =>
      cases formed
      exact trivial
  · cases formed
    exact trivial
  all_goals cases formed

/-- The moment of an outcome is past the forward frame. -/
theorem outcomeOf_phase {t : Transaction} {received : Option BackwardSignal} {reply : Reply}
    (formed : outcomeOf t received = some reply) : t.phase = .backward ∨ t.phase = .window := by
  unfold outcomeOf at formed
  split at formed <;> simp_all

/-- A transaction past its forward frame, moved on to another phase past it, drives nothing as before. -/
theorem LineUnit.Keeps.phase {u : LineUnit} {t t' : Transaction} (flight : u.inFlight = some t) (past : t.phase ≠ .forward)
    (still : t'.phase ≠ .forward) : LineUnit.Keeps u { u with inFlight := some t' } := by
  refine ⟨id, fun drives => ?_⟩
  unfold LineUnit.Drives at *
  simp only [flight, if_neg past] at drives
  rw [drives]
  exact (if_neg still).symm

theorem keeps_putBack {t : Transaction} : Keeps fits ended s (putBack l t s) := by
  unfold putBack
  split
  · exact .refl
  split
  next slot address _ _ r formed =>
    refine .ite (fun wanted => .modifyLine (.queue fun keyed => keyed.cons ?_)) fun _ => .refl
    simp only [Bool.and_eq_true, Bool.not_eq_true'] at wanted
    have same : r.address = address := by
      unfold requestOf at formed
      split at formed <;> cases formed <;> rfl
    rw [same]
    exact wanted.2
  next => exact .modifyLine ⟨id, id⟩

theorem keeps_faultLine {t : Transaction} (powered : s.powered = true) : Keeps fits ended s (faultLine l t s) := by
  refine (Keeps.modifyLine ?_).trans (keeps_discardInFlight.trans
    (keeps_discardReleases.trans (keeps_clearConfirmed.trans (.report ?_))))
  · exact .cut (fun _ => .nil) rfl rfl
  simp only [clearConfirmed_powered, discardReleases_powered, discardInFlight_powered, modifyLine_powered, powered]

theorem keeps_contend {t : Transaction} (powered : s.powered = true) : Keeps fits ended s (contend l t s) :=
  .ite (fun _ => .modifyLine (.cut id rfl rfl)) fun _ => .ite (fun _ => keeps_faultLine powered) fun _ =>
    Keeps.trans (.modifyLine (.cut id rfl rfl)) keeps_putBack

/-! ### SET_LINES (R152, R153) -/

theorem keeps_disableLine : Keeps fits ended s (disableLine l s) := by
  refine Keeps.trans (t := modifyLine l (fun u => { LineUnit.initial with cursor := u.cursor }) s) ?_
    (Keeps.trans ?_ (keeps_discardReleases.trans keeps_clearConfirmed))
  · exact .modifyLine (.cut (fun _ => .nil) rfl rfl)
  split
  · exact .ite (fun _ => .refl) fun _ => keeps_discardInFlight
  · exact .refl

theorem keeps_switchLine {enables : BitVec 4} : Keeps fits ended s (switchLine enables l s) := by
  have written : Keeps fits ended s { s with settings := { s.settings with enables := s.settings.enables.set l (enables.getLsbD l.val) } } :=
    .settings rfl rfl rfl fun _ before => before.2.1
  exact .ite (fun _ => .refl) fun _ => .ite (fun _ => written.trans keeps_consider) fun _ => written.trans keeps_disableLine

/-- R145: under a changed limit every miss count is at most it. -/
theorem Entry.InRange.underMissLimit {before limit : Nat} {e : Entry} (inRange : e.InRange before) :
    (underMissLimit limit e).InRange limit := by
  have := inRange
  obtain ⟨free, q, age, sub, pin, -, set, confirmed, unreachable⟩ := this
  unfold Machine.underMissLimit
  split_ifs with absent
  · rw [free absent]
    exact freed_inRange limit
  · exact ⟨fun idle => absurd idle absent, q, age, sub, pin, le_rfl, set, confirmed, unreachable⟩
  · exact ⟨fun idle => absurd idle absent, q, age, sub, pin, Nat.min_le_right .., set, confirmed, unreachable⟩

theorem keepsChannel_underMissLimit (limit : Nat) : KeepsChannel (underMissLimit limit) := by
  refine ⟨fun e free => ?_, fun e _ => ?_, fun e _ => ?_⟩
  all_goals
    unfold underMissLimit
    split_ifs
    all_goals first | exact free | rfl

theorem keeps_changeMissLimit {limit : Nat} (inRange : 1 ≤ limit ∧ limit ≤ 7) : Keeps fits ended s (changeMissLimit limit s) :=
  .ite (fun _ => .refl) fun _ =>
    { pending := rfl
      channels := fun ⟨roster, stored⟩ => ⟨roster.map (keepsChannel_underMissLimit limit), stored⟩
      queues := id
      drives := id
      output := id
      descends := id
      ranges := fun _ ⟨waiting, ⟨channels, scan, portals, curves, rows, thresholds, compute, _, station⟩, stored⟩ =>
        ⟨waiting, ⟨channels, scan, portals, curves, rows, thresholds, compute, inRange, station⟩, stored⟩
      window := id
      entries := fun _ _ ⟨live, stored⟩ => ⟨fun k => by
        simp only [entryAt, Tbl.get_map]
        exact (live k).underMissLimit, stored⟩
      unfinished := id
      record := fun _ => id }

theorem keeps_setLinesAt {enables : BitVec 4} {limit : Nat} (inRange : 1 ≤ limit ∧ limit ≤ 7) :
    Keeps fits ended s (setLinesAt enables limit s) :=
  (keeps_changeMissLimit inRange).trans (keeps_switchLine.trans (keeps_switchLine.trans (keeps_switchLine.trans keeps_switchLine)))

end Reports

/-! ### The resets (10.3) -/

theorem Entry.InRange.atReset {before : Nat} {e : Entry} (inRange : e.InRange before) (limit : Nat) : e.atReset.InRange limit := by
  obtain ⟨-, q, age, -, pin, -, -, -, -⟩ := inRange
  cases h : e.state with
  | free =>
    simp only [Entry.atReset, h]
    exact freed_inRange limit
  | retiring =>
    simp only [Entry.atReset, h]
    exact freed_inRange limit
  | provisional | active | suspended =>
    simp only [Entry.atReset, h]
    exact ⟨nofun, fun _ => q (by simp [h]), age, Nat.zero_le _, pin, Nat.zero_le _, Nat.zero_le _, nofun, nofun⟩

theorem keepsChannel_atReset : KeepsChannel Entry.atReset := by
  refine ⟨fun e free => ?_, fun e held => ?_, fun e held => ?_⟩
  · simp only [Entry.atReset, free]
    rfl
  all_goals cases h : e.state <;> simp only [Entry.atReset, h] at held ⊢ <;> exact absurd rfl held

theorem distinctChannels_free (n : Entry) (free : n.state = .free) : DistinctChannels (Tbl.fill 256 n) := by
  intro i _ held
  rw [Tbl.get_fill] at held
  exact absurd free held

theorem curve_straightLine_inRange : Curve.InRange Curve.straightLine := by
  refine ⟨rfl, by decide, ?_⟩
  decide

theorem portalConfig_defaults_inRange {primary secondary : Fin 8} (different : primary ≠ secondary) :
    (PortalConfig.defaults primary secondary).InRange := by
  refine ⟨fun same => absurd (Option.some.inj same) different, ?_⟩
  simp only [PortalConfig.defaults, StageConfig.defaults]
  decide

/-- The factory defaults are in range (10.4). -/
theorem settings_defaults_inRange : Settings.defaults.InRange := by
  refine ⟨fun ch => ?_, by decide, fun p => ?_, fun cls => ?_, ?_, by decide, ⟨by decide, by decide, by decide⟩, by decide⟩
  · rw [show Settings.defaults.channels.get ch = ⟨0, 256, 0, 99999⟩ from Tbl.get_fill _ _]
    exact ⟨by decide, by decide, by decide, by decide, by decide⟩
  · fin_cases p
    all_goals exact portalConfig_defaults_inRange (by decide)
  · rw [show Settings.defaults.curves.get cls = Curve.straightLine from Tbl.get_fill _ _]
    exact curve_straightLine_inRange
  · exact ⟨by decide, rfl, List.pairwise_singleton _ _, by decide⟩

section Resets

variable {fits ended : Prop} {s : State}

theorem keeps_reinitialise {settings : Settings} {slots : Tbl Entry 256} {flags : BitVec 48}
    (distinct : RosterDistinct s → DistinctChannels slots) (settingsRange : RangesHold s → settings.InRange)
    (slotsRange : EntriesInRange s → ∀ k, (slots.get k).InRange settings.missLimit) :
    Keeps fits ended s (reinitialise settings slots flags s) := by
  refine Keeps.trans ?_ keeps_considerAll
  exact
    { pending := rfl
      channels := fun before => ⟨distinct before, before.2.1, nofun⟩
      queues := fun _ l => by
        simp only [Tbl.get_map]
        exact .nil
      drives := fun _ => (drivesForward_iff _).mpr fun l => by
        simp only [Tbl.get_map]
        exact rfl
      output := fun _ => rfl
      descends := fun _ p => by
        simp only [Tbl.get_map]
        exact portalAtReset_descends _ _
      ranges := fun _ before => ⟨before.1, settingsRange before, before.2.2.1, nofun, fun _ _ opened => (by
        rcases opened with opened | opened <;> cases opened)⟩
      window := fun _ => nofun
      entries := fun _ _ before => ⟨slotsRange before, before.2.1, nofun⟩
      unfinished := fun _ busy => absurd rfl busy
      record := fun _ => id }

theorem keeps_fullReset : Keeps fits ended s (fullReset s) := by
  refine .ite (fun _ => keeps_reinitialise ?_ ?_ ?_) fun _ => keeps_reinitialise ?_ ?_ ?_
  · exact fun before => before.2.1.map keepsChannel_atReset
  · exact fun before => before.2.2.1
  · intro before k
    rw [Tbl.get_map]
    exact (before.2.1 k).atReset _
  · exact fun _ => distinctChannels_free _ rfl
  · exact fun _ => settings_defaults_inRange
  · intro _ k
    rw [Tbl.get_fill]
    exact freed_inRange _

theorem keeps_restartNow : Keeps fits ended s (restartNow s) := by
  refine keeps_reinitialise (fun before => before.1.map keepsChannel_atReset) (fun before => before.2.1) fun before k => ?_
  rw [Tbl.get_map]
  exact (before.1 k).atReset _

end Resets

end Sys2Proof.Machine
end

/-! PROOFS. What every command that a message carries keeps (O54 to O59): the ranges its checks establish, and its owner's effect. -/
section
namespace Sys2Proof.Machine

open Sys2Proof

/-! ### Commands that a message carries -/

/-- The numbers of a command that its owner does not check fit their two-byte fields (R186): ages and maintenance thresholds. -/
def Carried : Instr → Prop
  | .enter _ _ _ _ _ _ _ age _ => age ≤ 65535
  | .amend _ _ _ _ _ _ age _ _ => age ≤ 65535
  | .writeNext records => ∀ r ∈ records, r.age ≤ 65535
  | .setMaintenance _ rows => ∀ r ∈ rows, r.1 ≤ 65535
  | _ => True

theorem carried_of_wf {c : Instr} (wf : c.wf = true) : Carried c := by
  cases c
  case enter =>
    simp only [Instr.wf, Bool.and_eq_true, decide_eq_true_eq] at wf
    obtain ⟨⟨-, age⟩, -⟩ := wf
    exact Nat.le_of_lt_succ age
  case amend =>
    simp only [Instr.wf, Bool.and_eq_true, decide_eq_true_eq] at wf
    obtain ⟨⟨⟨-, age⟩, -⟩, -⟩ := wf
    exact Nat.le_of_lt_succ age
  case writeNext records =>
    simp only [Instr.wf, Bool.and_eq_true, List.all_eq_true, EntryRecord.wf, decide_eq_true_eq] at wf
    exact fun r member => Nat.le_of_lt_succ (wf.2 r member).2
  case setMaintenance count rows =>
    simp only [Instr.wf, Bool.and_eq_true, List.all_eq_true, decide_eq_true_eq] at wf
    exact fun r member => Nat.le_of_lt_succ (wf.2 r member).1
  all_goals exact trivial

theorem carried_of_decodeEnter {d : Dest} {p : List Byte} {c : Instr} (decoded : decodeEnter d p = some c) : Carried c := by
  unfold decodeEnter at decoded
  split at decoded
  · cases decoded
    exact Nat.le_of_lt_succ (be2_lt _ _)
  · cases decoded

theorem carried_of_decodeAmend {d : Dest} {p : List Byte} {c : Instr} (decoded : decodeAmend d p = some c) : Carried c := by
  unfold decodeAmend at decoded
  split at decoded
  · cases decoded
    exact Nat.le_of_lt_succ (be2_lt _ _)
  · cases decoded

theorem carried_of_decodeWriteNext {d : Dest} {p : List Byte} {c : Instr} (decoded : decodeWriteNext d p = some c) :
    Carried c := by
  unfold decodeWriteNext at decoded
  split at decoded
  split at decoded
  next records found =>
    split_ifs at decoded
    cases decoded
    intro r member
    have wf := wf_of_mem_decodeRecords found member
    simp only [EntryRecord.wf, Bool.and_eq_true, decide_eq_true_eq] at wf
    exact Nat.le_of_lt_succ wf.2
  next => cases decoded

theorem carried_of_decodeSetMaintenance {d : Dest} {p : List Byte} {c : Instr} (decoded : decodeSetMaintenance d p = some c) :
    Carried c := by
  unfold decodeSetMaintenance at decoded
  split at decoded
  · split at decoded
    next rows found =>
      split_ifs at decoded
      cases decoded
      exact fun r member => Nat.le_of_lt_succ (fits_of_mem_decodeRows found member).1
    next => cases decoded
  · cases decoded

/-- Each form of 12.3 reads numbers of its fields' widths; only four commands have a number that Carried speaks of. -/
theorem carried_of_form {form : Nat × (Dest → List Byte → Option Instr)} (member : form ∈ messageForms) {d : Dest} {p : List Byte}
    {c : Instr} (decoded : form.2 d p = some c) : Carried c := by
  revert decoded
  revert form
  simp only [messageForms, List.forall_mem_cons]
  refine ⟨carried_of_decodeEnter, carried_of_decodeAmend, ?_, ?_, ?_, ?_, ?_, ?_, ?_, ?_, ?_, carried_of_decodeWriteNext, ?_, ?_, ?_,
    ?_, ?_, ?_, ?_, ?_, ?_, ?_, ?_, ?_, ?_, carried_of_decodeSetMaintenance, ?_, ?_, ?_, ?_, ?_, ?_, ?_, ?_, ?_, ?_, ?_, ?_, ?_, ?_,
    ?_, ?_, ?_, ?_, nofun⟩
  all_goals
    intro decoded
    simp only [decodeSlot, decodePin, decodeBytes, decodeOpenWindow, decodeByte, decodeNone, decodeClearMarks, decodeSetChannel,
      decodeSetScan, decodeSetPortal, decodeSetManual, decodeSetStages, decodeSetCompute, decodeSetCurve, decodeMask, decodeSetInput,
      decodeSetLines, decodeEventMask] at decoded
    repeat' split at decoded
    all_goals cases decoded
    all_goals exact trivial

theorem mem_of_lookup {α β : Type} [BEq α] [LawfulBEq α] {list : List (α × β)} {a : α} {b : β} (found : list.lookup a = some b) :
    (a, b) ∈ list := by
  induction list with
  | nil => cases found
  | cons entry rest ih =>
    obtain ⟨key, value⟩ := entry
    rw [List.lookup_cons] at found
    split at found
    next same =>
      cases found
      rw [eq_of_beq same]
      exact List.mem_cons_self
    next => exact List.mem_cons_of_mem _ (ih found)

theorem carried_of_decodeMessage {d : Dest} {bytes : List Byte} {c : Instr} (decoded : decodeMessage d bytes = some c) :
    Carried c := by
  unfold decodeMessage at decoded
  split at decoded
  · cases decoded
  · split at decoded
    next form found => exact carried_of_form (mem_of_lookup found) decoded
    next => cases decoded

end Sys2Proof.Machine
end

/-! PROOFS. What the owner of each command keeps (O54 to O59): the ranges that its checks establish, and its effect. -/
section
namespace Sys2Proof.Machine

open Sys2Proof

/-! ### What the checks of a table's points and rows say -/

theorem rising_iff (values : List Nat) : rising values = true ↔ values.Pairwise (· < ·) := by
  rw [← List.isChain_iff_pairwise]
  induction values using rising.induct with
  | case1 a b rest ih => simp [rising, ih, List.isChain_cons_cons]
  | case2 a => simp [rising]
  | case3 => simp [rising]

theorem notFalling_iff (values : List Nat) : notFalling values = true ↔ values.Pairwise (· ≤ ·) := by
  rw [← List.isChain_iff_pairwise]
  induction values using notFalling.induct with
  | case1 a b rest ih => simp [notFalling, ih, List.isChain_cons_cons]
  | case2 a => simp [notFalling]
  | case3 => simp [notFalling]

/-- SET_MAINTENANCE's range check is the table's own condition (R96). -/
theorem maintenanceInRange_iff (rows : List MaintenanceRow) : maintenanceInRange rows ↔
    (1 ≤ rows.length ∧ rows.length ≤ 8) ∧ (rows.map (·.threshold)).head? = some 0 ∧ rising (rows.map (·.threshold)) = true ∧
      ∀ r ∈ rows, 500 ≤ r.factor ∧ r.factor ≤ 1000 := by
  rw [rising_iff, List.pairwise_map]
  rfl

/-- SET_CURVE's range check is the curve's own condition (R106). -/
theorem curveInRange_iff (curve : Curve) : curveInRange curve.cells = true ↔ Curve.InRange curve := by
  have size := curve.size
  simp only [curveInRange, Bool.and_eq_true, decide_eq_true_eq, notFalling_iff, List.all_eq_true]
  have head : curve.cells.head? = some 0 ↔ curve.get 0 = 0 := by
    rw [List.head?_eq_getElem?, List.getElem?_eq_getElem (by omega), Option.some.injEq]
    rfl
  have at_succ (n : Nat) (h : n + 1 < 17) : curve.cells.tail[n]'(by rw [List.length_tail]; omega) = curve.get ⟨n + 1, h⟩ := by
    rw [List.getElem_tail]
    rfl
  rw [head]
  constructor
  · rintro ⟨⟨⟨start, lit⟩, sorted⟩, top⟩
    refine ⟨start, top _ (Tbl.mem_cells.mpr ⟨16, rfl⟩), ?_⟩
    rintro ⟨i, hi⟩ ⟨j, hj⟩ rfl
    refine ⟨?_, List.pairwise_iff_getElem.mp sorted i (i + 1) _ _ (Nat.lt_succ_self i)⟩
    rw [← at_succ i hj]
    exact lit _ (List.getElem_mem _)
  · intro inRange
    obtain ⟨start, below, rising⟩ := inRange
    refine ⟨⟨⟨start, fun point member => ?_⟩, ?_⟩, fun point member => ?_⟩
    · obtain ⟨n, inside, rfl⟩ := List.mem_iff_getElem.mp member
      rw [List.length_tail, size] at inside
      rw [at_succ n (by omega)]
      exact (rising ⟨n, by omega⟩ ⟨n + 1, by omega⟩ rfl).1
    · rw [← List.isChain_iff_pairwise, List.isChain_iff_getElem]
      exact fun i h => (rising ⟨i, by omega⟩ ⟨i + 1, by omega⟩ rfl).2
    · obtain ⟨i, rfl⟩ := Tbl.mem_cells.mp member
      exact Curve.InRange.get_le ⟨start, below, rising⟩ i

theorem pinFieldOf_le {n : Nat} {pin : Option Nat} (field : pinFieldOf n = some pin) : ∀ code, pin = some code → code ≤ 1023 := by
  unfold pinFieldOf at field
  split_ifs at field with absent inside
  · cases field
    exact nofun
  · cases field
    intro code same
    cases same
    exact inside

theorem qInRange_iff (q : Nat) : qInRange q = true ↔ 1 ≤ q ∧ q ≤ 9999 := by
  simp [qInRange]

theorem enteredEntry_inRange (limit : Nat) {line : Fin 4} {address : Fin 64} {portal : Fin 4} {stage : Fin 8} {cls : Fin 4}
    {q age : Nat} {pin : Option Nat} (inside : 1 ≤ q ∧ q ≤ 9999) (carried : age ≤ 65535) (code : ∀ n, pin = some n → n ≤ 1023) :
    (enteredEntry line address portal stage cls q age pin).InRange limit := by
  refine ⟨nofun, fun _ => inside, carried, Nat.zero_le _, code, Nat.zero_le _, ?_, nofun, nofun⟩
  cases pin with
  | none => exact Nat.zero_le _
  | some n => exact code n rfl

/-! ### Verdicts -/

/-- What an owner's verdict keeps: a refusal everything, a taken command the conditions of a run. -/
def Verdict.Keeps (fits ended : Prop) (s : State) : Verdict → Prop
  | .refused _ => True
  | .taken after _ held => Machine.Keeps fits ended s after ∧ held.InRange

theorem Verdict.Keeps.ite {fits ended : Prop} {s : State} {c : Prop} [Decidable c] {v w : Verdict} (yes : c → v.Keeps fits ended s)
    (no : ¬c → w.Keeps fits ended s) : (if c then v else w).Keeps fits ended s := by
  split_ifs with h
  · exact yes h
  · exact no h

theorem Verdict.Keeps.refused {fits ended : Prop} {s : State} {why : Status} : (Verdict.refused why).Keeps fits ended s := trivial

/-- A command taken in the usual way closes the window before its effect. -/
theorem Verdict.Keeps.done {fits ended : Prop} {s : State} {effect : State → State} {data : State → List Byte}
    (kept : Machine.Keeps fits ended (closeWindow s) (effect (closeWindow s))) : (done effect data s).Keeps fits ended s :=
  ⟨Machine.Keeps.closeWindow.trans kept, trivial⟩

/-- A read. -/
theorem Verdict.Keeps.read {fits ended : Prop} {s : State} {data : State → List Byte} : (Machine.done id data s).Keeps fits ended s :=
  .done .refl

section Owners

variable {fits ended : Prop} {s : State}

/-! ### The roster -/

theorem keeps_enterAt {asked : Option (Fin 256)} {k : Fin 256} {e : Entry} (clear : conflicts s asked e.line e.address = false)
    (chosen : ∀ j, asked = some j → j = k) (inRange : fits → e.InRange s.settings.missLimit) : Keeps fits ended s (enterAt k e s) := by
  refine Keeps.trans (.putEntry (fun _ _ j other => ?_) fun fit _ _ => inRange fit) .mark
  exact (conflicts_eq_false_iff ..).mp clear j fun named => other (chosen j named.symm)

theorem lowestFree_eq_some {k : Fin 256} (found : lowestFree s = some k) : (entryAt s k).state = .free := by
  obtain ⟨⟨j, e⟩, member, rfl⟩ := Option.map_eq_some_iff.mp found
  have held := List.find?_some member
  rw [← (Tbl.mem_indexed.mp (List.mem_of_find?_eq_some member) : entryAt s j = e)] at held
  exact of_decide_eq_true held

theorem takeEnterChecked_keeps {asked : Option (Fin 256)} {e : Entry} (inRange : fits → e.InRange s.settings.missLimit) :
    (takeEnterChecked asked e s).Keeps fits ended s := by
  refine .ite (fun _ => .refused) fun _ => .ite (fun _ => .refused) fun clear => ?_
  split
  next => exact .refused
  next k chosen =>
    refine .ite (fun _ => .refused) fun _ => .done (Keeps.trans (keeps_enterAt (asked := asked) (Bool.eq_false_iff.mpr clear) ?_ inRange)
      keeps_consider)
    rintro j rfl
    exact Option.some.inj chosen

theorem takeEnter_keeps {slot line address portal stage cls q age pin : Nat} (carried : fits → age ≤ 65535) :
    (takeEnter slot line address portal stage cls q age pin s).Keeps fits ended s := by
  unfold takeEnter
  split
  next code _ _ _ _ _ _ field =>
    refine .ite (fun inside => takeEnterChecked_keeps fun fit => ?_) fun _ => .refused
    exact enteredEntry_inRange _ ((qInRange_iff q).mp inside) (carried fit) (pinFieldOf_le field)
  next => exact .refused

/-- An entry with fields of AMEND's message written stays in range. -/
theorem Entry.InRange.amended {limit : Nat} {e : Entry} (inRange : e.InRange limit) (held : e.state ≠ .free)
    {portal : Option (Fin 4)} {stage : Option (Fin 8)} {cls : Option (Fin 4)} {q age : Option Nat} {line : Option (Fin 4)}
    {address : Option (Fin 64)} (contribution : ∀ n, q = some n → 1 ≤ n ∧ n ≤ 9999) (carried : ∀ n, age = some n → n ≤ 65535) :
    (amended portal stage cls q age line address e).InRange limit := by
  obtain ⟨-, q', age', sub, rest⟩ := inRange
  refine ⟨fun absent => absurd absent held, fun _ => ?_, ?_, ?_, rest⟩
  · cases q with
    | none => exact q' held
    | some n => exact contribution n rfl
  · cases age with
    | none => exact age'
    | some n => exact carried n rfl
  · cases age with
    | none => exact sub
    | some n => exact Nat.zero_le _

theorem Entry.InRange.moved {limit : Nat} {e : Entry} (inRange : e.InRange limit) (held : e.state ≠ .free) :
    (movedEntry e).InRange limit := by
  obtain ⟨-, q, age, sub, pin, miss, set, confirmed, -⟩ := inRange
  refine ⟨fun absent => absurd absent held, q, age, sub, pin, ?_, set, ?_, nofun⟩
  · simp only [movedEntry]
    split_ifs
    · exact miss
    · exact Nat.zero_le _
  · simp only [movedEntry]
    split_ifs
    · exact nofun
    · exact confirmed

theorem keeps_amendAt {k : Fin 256} {new : Entry} {marks : Bool} (held : (entryAt s k).state ≠ .free)
    (clear : ¬((entryAt s k).line = new.line ∧ (entryAt s k).address = new.address) →
      conflicts s (some k) new.line new.address = false)
    (inRange : fits → (entryAt s k).InRange s.settings.missLimit → new.InRange s.settings.missLimit) (stays : new.state ≠ .free) :
    Keeps fits ended s (amendAt k new marks s) := by
  refine .ite (fun ⟨line, address⟩ => ?_) fun moves => ?_
  · exact (Keeps.rewrite held line.symm address.symm fun fit _ => inRange fit).trans .markIf
  · refine Keeps.trans (.putEntry (fun _ _ j other => ?_) ?_) (Keeps.markIf.trans (keeps_withdraw.trans keeps_consider))
    · exact (conflicts_eq_false_iff ..).mp (clear moves) j fun named => other (Option.some.inj named)
    · exact fun fit _ before => (inRange fit before).moved stays

theorem takeAmendChecked_keeps {k : Fin 256} {portal : Option (Fin 4)} {stage : Option (Fin 8)} {cls : Option (Fin 4)}
    {q age : Option Nat} {line : Option (Fin 4)} {address : Option (Fin 64)} (contribution : ∀ n, q = some n → 1 ≤ n ∧ n ≤ 9999)
    (carried : fits → ∀ n, age = some n → n ≤ 65535) :
    (takeAmendChecked k portal stage cls q age line address s).Keeps fits ended s := by
  refine .ite (fun _ => .refused) fun taken => .ite (fun _ => .refused) fun unmet => .ite (fun _ => .refused) fun _ => .done ?_
  have held : (entryAt s k).state ≠ .free := fun free => taken (.inl free)
  refine keeps_amendAt held (fun moves => ?_) (fun fit before => before.amended held contribution (carried fit)) held
  have moved : (line.isSome || address.isSome) = true := by
    by_contra still
    simp only [Bool.or_eq_true, not_or, Bool.not_eq_true, Option.isSome_eq_false_iff, Option.isNone_iff_eq_none] at still
    obtain ⟨rfl, rfl⟩ := still
    exact moves ⟨rfl, rfl⟩
  simp only [moved, Bool.true_and] at unmet
  exact Bool.eq_false_iff.mpr unmet

theorem presentField_eq_some {α : Type} {present : BitVec 8} {position : Nat} {value : Option α} {a : α}
    (field : presentField present position value = some (some a)) : value = some a := by
  unfold presentField at field
  split_ifs at field
  · obtain ⟨b, found, same⟩ := Option.map_eq_some_iff.mp field
    cases same
    exact found
  · cases field

theorem takeAmend_keeps {slot : Nat} {present : BitVec 8} {portal stage cls q age line address : Nat} (carried : fits → age ≤ 65535) :
    (takeAmend slot present portal stage cls q age line address s).Keeps fits ended s := by
  refine .ite (fun _ => .refused) fun _ => ?_
  split
  next q' age' l a _ _ _ _ q_field age_field _ _ =>
    refine takeAmendChecked_keeps (fun n some_q => ?_) fun fit n some_age => ?_
    · subst some_q
      have inside := presentField_eq_some q_field
      split_ifs at inside with ok
      cases inside
      exact (qInRange_iff _).mp ok
    · subst some_age
      cases presentField_eq_some age_field
      exact carried fit
  next => exact .refused

/-- An entry left in another non-FREE state with no reach field of its own (R17, R18). -/
theorem Entry.InRange.suspended {limit : Nat} {e : Entry} (inRange : e.InRange limit) (held : e.state ≠ .free) :
    Entry.InRange limit { e with state := .suspended } := by
  obtain ⟨-, q, age, sub, pin, miss, set, confirmed, -⟩ := inRange
  exact ⟨nofun, fun _ => q held, age, sub, pin, miss, set, confirmed, fun _ => .inr rfl⟩

theorem takeSuspend_keeps {slot : Nat} : (takeSuspend slot s).Keeps fits ended s := by
  unfold takeSuspend
  split
  next => exact .refused
  next k _ =>
    refine .ite (fun state => .ite (fun _ => .refused) fun _ => .done ?_) fun _ => .refused
    have held : (entryAt s k).state ≠ .free := by rcases state with state | state <;> rw [state] <;> exact nofun
    refine Keeps.trans ?_ (Keeps.mark.trans keeps_withdraw)
    exact .rewrite held rfl rfl fun _ _ before => before.suspended held

theorem Entry.InRange.resumed {limit : Nat} {e : Entry} (inRange : e.InRange limit) (held : e.state ≠ .free) :
    (resumedEntry e).InRange limit := by
  obtain ⟨-, q, age, sub, pin, -, set, -, -⟩ := inRange
  exact ⟨nofun, fun _ => q held, age, sub, pin, Nat.zero_le _, set, nofun, nofun⟩

theorem takeResume_keeps {slot : Nat} : (takeResume slot s).Keeps fits ended s := by
  unfold takeResume
  split
  next => exact .refused
  next k _ =>
    refine .ite (fun state => .ite (fun _ => .refused) fun _ => .done ?_) fun _ => .refused
    have held : (entryAt s k).state ≠ .free := by rw [state]; exact nofun
    refine Keeps.trans ?_ (Keeps.mark.trans keeps_consider)
    exact .rewrite held rfl rfl fun _ _ before => before.resumed held

/-- An entry that is not freed at once is reachable, and so may become RETIRING (R21). -/
theorem Entry.InRange.retiring {limit : Nat} {e : Entry} (inRange : e.InRange limit) (held : e.state ≠ .free)
    (kept : freedAtOnce s e = false) : Entry.InRange limit { e with state := .retiring, setLevel := 0 } := by
  obtain ⟨-, q, age, sub, pin, miss, -, confirmed, unreachable⟩ := inRange
  refine ⟨nofun, fun _ => q held, age, sub, pin, miss, Nat.zero_le _, confirmed, fun lost => ?_⟩
  have state := unreachable lost
  simp only [freedAtOnce, Bool.or_eq_false_iff, Bool.and_eq_false_iff, decide_eq_false_iff_not] at kept
  obtain ⟨reach | ⟨provisional, suspended⟩, -⟩ := kept
  · exact absurd lost (Bool.eq_false_iff.mp reach)
  · exact absurd state (not_or.mpr ⟨provisional, suspended⟩)

theorem takeRetire_keeps {slot : Nat} : (takeRetire slot s).Keeps fits ended s := by
  unfold takeRetire
  split
  next => exact .refused
  next k _ =>
    refine .ite (fun _ => .refused) fun state => .ite (fun _ => .refused) fun _ => .ite (fun _ => .done keeps_freeSlot) fun kept =>
      .done ?_
    have held : (entryAt s k).state ≠ .free := fun free => state (.inl free)
    refine Keeps.trans ?_ (Keeps.mark.trans (keeps_hand.trans keeps_consider))
    exact .rewrite held rfl rfl fun _ _ before => before.retiring held (Bool.eq_false_iff.mpr kept)

theorem state_ne_free_of_pinnable {e : Entry} (can : pinnable e = true) : e.state ≠ .free := by
  intro free
  rw [pinnable, free] at can
  cases can

theorem Entry.InRange.pinned {limit : Nat} {e : Entry} (inRange : e.InRange limit) (held : e.state ≠ .free) {pin : Option Nat}
    {level : Nat} (code : ∀ n, pin = some n → n ≤ 1023) (bounded : level ≤ 1023) :
    Entry.InRange limit { e with pin := pin, setLevel := level } := by
  obtain ⟨-, q, age, sub, -, miss, -, rest⟩ := inRange
  exact ⟨fun absent => absurd absent held, q, age, sub, code, miss, bounded, rest⟩

theorem Entry.InRange.setLevel_le {limit : Nat} {e : Entry} (inRange : e.InRange limit) : e.setLevel ≤ 1023 := by
  obtain ⟨-, -, -, -, -, -, set, -⟩ := inRange
  exact set

theorem takePin_keeps {slot code : Nat} : (takePin slot code s).Keeps fits ended s := by
  unfold takePin
  split
  next => exact .refused
  next k _ =>
    refine .ite (fun _ => .refused) fun inside => .ite (fun can => .done ?_) fun _ => .refused
    have held := state_ne_free_of_pinnable can
    have written : Keeps fits ended (closeWindow s) (mark k (putEntry k { entryAt s k with pin := some code, setLevel :=
        if (entryAt s k).health.failed then (entryAt s k).setLevel else code } (closeWindow s))) := by
      refine Keeps.trans ?_ .mark
      refine .rewrite held rfl rfl fun _ _ before => before.pinned held (fun n same => ?_) ?_
      · cases same
        exact Nat.le_of_not_lt inside
      · split_ifs
        · exact before.setLevel_le
        · exact Nat.le_of_not_lt inside
    exact .ite (fun _ => written.trans (keeps_handLevel.trans keeps_consider)) fun _ => written

theorem takeUnpin_keeps {slot : Nat} : (takeUnpin slot s).Keeps fits ended s := by
  unfold takeUnpin
  split
  next => exact .refused
  next k _ =>
    refine .ite (fun can => .done ?_) fun _ => .refused
    have held := state_ne_free_of_pinnable can
    refine Keeps.trans ?_ .mark
    exact .rewrite held rfl rfl fun _ _ before => before.pinned (pin := none) held (fun _ => nofun) before.setLevel_le

theorem takeLocate_keeps {slot : Nat} : (takeLocate slot s).Keeps fits ended s := by
  unfold takeLocate
  split
  next => exact .refused
  next k _ => exact .ite (fun _ => .ite (fun _ => .refused) fun _ => .done (keeps_hand.trans keeps_consider)) fun _ => .refused

/-! ### The transfer window -/

theorem takeOpenWindow_keeps {first last direction : Nat} : (takeOpenWindow first last direction s).Keeps fits ended s := by
  unfold takeOpenWindow
  split
  next => exact .refused
  next d _ =>
    refine .ite (fun _ => .refused) fun inside => .done (.withWindow fun _ => ?_)
    simp only
    omega

theorem takeReadNext_keeps {count : Nat} : (takeReadNext count s).Keeps fits ended s := by
  refine .ite (fun _ => .refused) fun _ => ?_
  split
  next w opened =>
    refine .ite (fun _ => ⟨.withWindow fun bounded => ?_, trivial⟩) fun _ => .refused
    have := bounded w opened
    simp only
    omega
  next => exact .refused

/-- One record of WRITE_NEXT: the state and the window beside it (R28). -/
theorem transferRecord_keeps {r : EntryRecord} {t : Transfer} (carried : fits → r.age ≤ 65535) :
    Keeps fits ended (withWindow t.window t.state) (withWindow (transferRecord r t).window (transferRecord r t).state) := by
  have unchanged : Keeps fits ended (withWindow t.window t.state) (withWindow t.window t.state) := .refl
  have next (state : State) (inside : ¬t.window.last < t.window.cursor)
      (kept : Keeps fits ended (withWindow t.window t.state) (withWindow t.window state)) :
      Keeps fits ended (withWindow t.window t.state) (withWindow { t.window with cursor := t.window.cursor + 1 } state) := by
    refine kept.trans (Keeps.withWindow (s := withWindow t.window state) fun bounded => ?_)
    have := bounded t.window rfl
    simp only
    omega
  unfold transferRecord
  split_ifs with stopped past empty
  · exact unchanged
  · exact unchanged
  · exact next _ past unchanged
  · dsimp only
    split
    next => exact unchanged
    next slot _ =>
      split
      next => exact unchanged
      next ok =>
        refine next _ past ?_
        unfold recordRefusal at ok
        split_ifs at ok with out held clash
        refine keeps_enterAt (s := withWindow t.window t.state) (asked := some slot) (Bool.eq_false_iff.mpr clash)
          (fun j named => (Option.some.inj named).symm) fun fit => enteredEntry_inRange _ ?_ (carried fit) fun n same => ?_
        · exact (qInRange_iff _).mp (Bool.not_eq_false _ ▸ out)
        · obtain ⟨code, -, rfl⟩ := Option.map_eq_some_iff.mp same
          exact Nat.le_of_lt_succ code.isLt

theorem transferAll_keeps {records : List EntryRecord} {t : Transfer} (carried : fits → ∀ r ∈ records, r.age ≤ 65535) :
    Keeps fits ended (withWindow t.window t.state) (withWindow (records.foldl (fun t r => transferRecord r t) t).window
      (records.foldl (fun t r => transferRecord r t) t).state) := by
  induction records generalizing t with
  | nil => exact .refl
  | cons r rest ih =>
    exact (transferRecord_keeps fun fit => carried fit r List.mem_cons_self).trans
      (ih fun fit other member => carried fit other (List.mem_cons_of_mem _ member))

theorem takeWriteNext_keeps {records : List EntryRecord} (carried : fits → ∀ r ∈ records, r.age ≤ 65535) :
    (takeWriteNext records s).Keeps fits ended s := by
  refine .ite (fun _ => .refused) fun _ => .ite (fun _ => .refused) fun _ => ?_
  split
  next w opened =>
    refine .ite (fun _ => ⟨?_, trivial⟩) fun _ => .refused
    exact Keeps.trans (.withWindow fun bounded => bounded w opened)
      ((transferAll_keeps (t := ⟨s, w, 0, 0, 0, .done⟩) carried).trans keeps_considerAll)
  next => exact .refused

end Owners

end Sys2Proof.Machine
end

/-! PROOFS. What the settings' commands, the dispatch of a message and every event keep, and so every step: O54 to O59, O60 and O2. -/
section
namespace Sys2Proof.Machine

open Sys2Proof

section Owners

variable {fits ended : Prop} {s : State}

/-! ### The settings' commands -/

theorem takeSetChannel_keeps {channel offset gain low high : Nat} : (takeSetChannel channel offset gain low high s).Keeps fits ended s := by
  unfold takeSetChannel
  split
  next => exact .refused
  next ch _ =>
    refine .ite (fun _ => .refused) fun inside => .ite (fun _ => .refused) fun _ => .done (.settings rfl rfl rfl fun _ before => ?_)
    obtain ⟨channels, others⟩ := before.2.1
    refine ⟨fun j => ?_, others⟩
    rw [Tbl.get_set]
    split_ifs
    · simp only [Config.topLuminance, not_or] at inside
      refine ⟨?_, ?_, ?_, ?_, ?_⟩ <;> simp only <;> omega
    · exact channels j

theorem takeSetScan_keeps {positions : List Nat} {interval : Nat} : (takeSetScan positions interval s).Keeps fits ended s := by
  unfold takeSetScan
  split
  next => exact .refused
  split
  next => exact .refused
  next list _ =>
    refine .ite (fun _ => .refused) fun inside => .ite (fun _ => .refused) fun _ => .done ?_
    refine Keeps.trans (.settings (g := { s.settings with scanList := list, scanInterval := interval / 50 * 50 }) rfl rfl rfl
      fun _ before => ?_) (.withScanner (f := fun c => { c with timer := .running (interval / 50 * 50) }))
    obtain ⟨channels, -, others⟩ := before.2.1
    exact ⟨channels, by simp only; omega, others⟩

/-- The configuration that a SET_PORTAL within its ranges leaves is in range (R73). -/
theorem configured_inRange {c : PortalFields} {primary secondary : Option (Fin 8)} {old : PortalConfig}
    (checked : (portalFieldsInRange c && differentChannels primary secondary) = true) (before : old.InRange) :
    (configured c primary secondary old).InRange := by
  simp only [portalFieldsInRange, Config.topLuminance, Bool.and_eq_true, decide_eq_true_eq] at checked
  obtain ⟨⟨⟨⟨⟨⟨⟨⟨⟨⟨⟨⟨⟨⟨⟨⟨k, low⟩, order⟩, cap⟩, fallback⟩, w⟩, up⟩, dn⟩, dead⟩, hold⟩, stale⟩, holds⟩, recover⟩, disagree⟩, uMin⟩,
    interval⟩, different⟩ := checked
  obtain ⟨-, -, -, -, -, -, -, -, -, -, -, -, -, -, count, stages⟩ := before
  refine ⟨fun same => ?_, k, ⟨order, fallback, of_decide_eq_true cap⟩, w, up, dn, dead, hold, stale, holds, recover, disagree, uMin, ?_, count, stages⟩
  · replace same : primary = secondary := same
    subst same
    cases primary with
    | none => rfl
    | some ch => simp [differentChannels] at different
  · simp only [configured]
    omega

theorem keeps_setPortalAt {p : Fin 4} {c : PortalFields} {primary secondary : Option (Fin 8)} (powered : s.powered = true)
    (checked : (portalFieldsInRange c && differentChannels primary secondary) = true) :
    Keeps fits ended s (setPortalAt p c primary secondary s) := by
  have written := Keeps.portal (fits := fits) (ended := ended) (s := s) (p := p)
    (f := fun _ => configured c primary secondary (s.settings.portals.get p))
    (g := reconfiguredLive s (s.settings.portals.get p) (configured c primary secondary (s.settings.portals.get p))) id
    (configured_inRange checked)
  refine .ite (fun _ => written) fun _ => written.trans ((keeps_recompute ?_).trans keeps_considerAll)
  exact powered

theorem takeSetPortal_keeps {portal : Nat} {c : PortalFields} (powered : s.powered = true) :
    (takeSetPortal portal c s).Keeps fits ended s := by
  unfold takeSetPortal
  split
  next =>
    exact .ite (fun checked => .ite (fun _ => .refused) fun _ => .done (keeps_setPortalAt powered checked)) fun _ => .refused
  next => exact .refused

theorem keeps_setRoleAt {p : Fin 4} {role : Role} (powered : s.powered = true) : Keeps fits ended s (setRoleAt p role s) := by
  have written : Keeps fits ended s (modifyPortalConfig p (fun c => { c with role := role }) s) := .modifyPortalConfig rfl id
  refine .ite (fun _ => .refl) fun _ => ?_
  cases role with
  | entrance => exact written.trans (.modifyPortal id)
  | exit => exact .ite (fun _ => written.trans (.modifyPortal id)) fun _ => written
  | closed =>
    refine written.trans (Keeps.trans (.modifyPortal (g := darkened) fun _ i j _ _ => ?_) ((keeps_recompute ?_).trans keeps_considerAll))
    · simp only [darkened, Tbl.get_map, le_refl]
    · exact powered

theorem takeSetRole_keeps {portal role : Nat} (powered : s.powered = true) : (takeSetRole portal role s).Keeps fits ended s := by
  unfold takeSetRole
  split
  next => exact .ite (fun _ => .refused) fun _ => .done (keeps_setRoleAt powered)
  next => exact .refused

theorem takeSetManual_keeps {portal luminance : Nat} : (takeSetManual portal luminance s).Keeps fits ended s := by
  unfold takeSetManual
  split
  next => exact .refused
  next => exact .ite (fun _ => .refused) fun _ => .done (.modifyPortal id)

theorem takeSetAuto_keeps {portal : Nat} : (takeSetAuto portal s).Keeps fits ended s := by
  unfold takeSetAuto
  split
  next => exact .refused
  next => exact .ite (fun _ => .done (.modifyPortal id)) fun _ => .refused

/-- The stages that SET_STAGES leaves descend: a position newly in use stands at 0 (R80). -/
theorem keeps_setStagesAt {p : Fin 4} {pairs : List (Nat × Nat)} (count : 1 ≤ pairs.length ∧ pairs.length ≤ 8)
    (inside : ∀ x ∈ pairs, x.1 ≤ 1000 ∧ x.2 ≤ 99999) : Keeps fits ended s (setStagesAt p pairs s) := by
  refine .portal (fun descends i j next used => ?_) fun before => ?_
  · have outer : i.val < pairs.length := by
      simp only at used
      omega
    simp only [Tbl.get_mapIdx]
    by_cases held : j.val < (s.settings.portals.get p).stageCount
    · rw [if_pos ⟨held, used⟩, if_pos ⟨by omega, outer⟩]
      exact descends i j next held
    · rw [if_neg fun both => held both.1]
      exact Nat.zero_le _
  · obtain ⟨channels, k, lth, w, up, dn, dead, hold, stale, holds, recover, disagree, uMin, interval, -, -⟩ := before
    refine ⟨channels, k, lth, w, up, dn, dead, hold, stale, holds, recover, disagree, uMin, interval, count, fun j => ?_⟩
    simp only [stageConfigsOf, Tbl.get_tabulate]
    split
    next f floor found => exact inside _ (List.mem_of_getElem? found)
    next => exact ⟨Nat.zero_le _, Nat.zero_le _⟩

theorem takeSetStages_keeps {portal count : Nat} {pairs : List (Nat × Nat)} : (takeSetStages portal count pairs s).Keeps fits ended s := by
  refine .ite (fun _ => .refused) fun whole => ?_
  split
  next => exact .refused
  next =>
    refine .ite (fun _ => .refused) fun inside => .ite (fun _ => .refused) fun _ => .done ?_
    simp only [not_or, Bool.not_eq_false, List.all_eq_true, not_not, Config.topLuminance] at inside whole
    obtain ⟨low, high, pairsInside⟩ := inside
    exact keeps_setStagesAt ⟨by omega, by omega⟩ fun x m => of_decide_eq_true (pairsInside x m)

theorem takeSetCompute_keeps {mode thermal ceiling : Nat} (powered : s.powered = true) :
    (takeSetCompute mode thermal ceiling s).Keeps fits ended s := by
  unfold takeSetCompute
  split
  next => exact .refused
  next m _ =>
    refine .ite (fun _ => .refused) fun inside => .ite (fun _ => .refused) fun _ => .done ?_
    refine Keeps.trans (.settings (g := { s.settings with compute := ⟨m, thermal, ceiling⟩ }) rfl rfl rfl fun _ before => ?_)
      ((keeps_recomputeLimited ?_).trans keeps_considerAll)
    · obtain ⟨channels, scan, portals, curves, rows, thresholds, -, others⟩ := before.2.1
      exact ⟨channels, scan, portals, curves, rows, thresholds, ⟨by simp only; omega, by simp only; omega, by simp only; omega⟩, others⟩
    · exact powered

theorem takeSetMaintenance_keeps {count : Nat} {rows : List (Nat × Nat)} (carried : fits → ∀ r ∈ rows, r.1 ≤ 65535) :
    (takeSetMaintenance count rows s).Keeps fits ended s := by
  refine .ite (fun _ => .refused) fun whole => .ite (fun _ => .refused) fun inside => .ite (fun _ => .refused) fun _ =>
    .done (.settings rfl rfl rfl fun fit before => ?_)
  obtain ⟨channels, scan, portals, curves, -, -, others⟩ := before.2.1
  simp only [not_or, Bool.not_eq_false, List.all_eq_true, decide_eq_true_eq, not_not] at inside whole
  obtain ⟨low, high, start, sorted, factors⟩ := inside
  refine ⟨channels, scan, portals, curves, (maintenanceInRange_iff _).mpr ⟨?_, ?_, ?_, ?_⟩, ?_, others⟩
  · rw [List.length_map]
    omega
  · rw [List.map_map]
    exact start
  · rw [List.map_map]
    exact sorted
  · simp only [List.forall_mem_map]
    exact factors
  · simp only [List.forall_mem_map]
    exact carried fit

theorem takeSetCurve_keeps {cls : Nat} {points : List Nat} : (takeSetCurve cls points s).Keeps fits ended s := by
  unfold takeSetCurve
  split
  next => exact .refused
  next curve table =>
    split
    next => exact .refused
    next c _ =>
      refine .ite (fun _ => .refused) fun inside => .ite (fun _ => .refused) fun _ => .done (.settings rfl rfl rfl fun _ before => ?_)
      obtain ⟨channels, scan, portals, curves, others⟩ := before.2.1
      refine ⟨channels, scan, portals, fun j => ?_, others⟩
      rw [Tbl.get_set]
      split_ifs
      · unfold tableOf at table
        split_ifs at table
        cases table
        exact (curveInRange_iff _).mp (Bool.not_eq_false _ ▸ inside)
      · exact curves j

theorem takeMask_keeps {effect : BitVec 4 → State → State} {mask : BitVec 8}
    (kept : ∀ m, Keeps fits ended (closeWindow s) (effect m (closeWindow s))) : (takeMask effect mask s).Keeps fits ended s := by
  unfold takeMask
  split
  next => exact .refused
  next => exact .done (kept _)

theorem takeSetInput_keeps {input function : Nat} {mask : BitVec 8} {sense polarity : Nat} (powered : s.powered = true) :
    (takeSetInput input function mask sense polarity s).Keeps fits ended s := by
  unfold takeSetInput
  split
  next => exact .refused
  next portals _ =>
  split
  next i f se po _ _ _ _ =>
    refine .ite (fun _ => .refused) fun _ => .done (Keeps.trans (.settings
      (g := { s.settings with inputs := s.settings.inputs.set i ⟨f, portals, se, po⟩ }) rfl rfl rfl fun _ before => before.2.1)
      (keeps_settleConditions ?_))
    exact powered
  next => exact .refused

theorem takeSetLines_keeps {enables : BitVec 8} {missLimit : Nat} : (takeSetLines enables missLimit s).Keeps fits ended s := by
  unfold takeSetLines
  split
  next => exact .refused
  next =>
    refine .ite (fun _ => .refused) fun inside => .ite (fun _ => .refused) fun _ => .done (keeps_setLinesAt ?_)
    omega

theorem takeSetLink_keeps {station baud : Nat} : (takeSetLink station baud s).Keeps fits ended s := by
  unfold takeSetLink
  split
  next => exact .refused
  next b _ =>
    refine .ite (fun _ => .refused) fun inside => .ite (fun _ => .refused) fun _ => ⟨.closeWindow, ?_⟩
    simp only [Held.InRange]
    omega

/-- The mask and the output formed under it, in one event (R176). -/
theorem keeps_setMask {mask : BitVec 48} (powered : s.powered = true) :
    Keeps fits ended s (withFlags s.events.flags { s with settings := { s.settings with mask := mask } }) where
  pending := rfl
  channels := id
  queues := id
  drives := id
  output := fun _ => (if_pos powered).symm
  descends := id
  ranges := fun _ => id
  window := id
  entries := fun _ _ => id
  unfinished := id
  record := fun _ => id

/-- A write begun: the stored form of working memory is in range and distinct as working memory is (R181). -/
theorem keeps_beginWrite :
    Keeps fits ended s (withStore (fun st => { st with state := .writing (snapshotOf s), complete := false }) s) where
  pending := rfl
  channels := fun before => ⟨before.1, before.2.1, fun _ writing => by
    cases writing
    exact before.1.map keepsChannel_atReset⟩
  queues := id
  drives := id
  output := id
  descends := id
  ranges := fun _ before => ⟨before.1, before.2.1, before.2.2.1, fun _ writing => (by cases writing; exact before.2.1), before.2.2.2.2⟩
  window := id
  entries := fun _ _ before => ⟨before.1, before.2.1, fun _ writing k => by
    cases writing
    rw [snapshotOf, Tbl.get_map]
    exact (before.1 k).atReset _⟩
  unfinished := fun _ _ => rfl
  record := fun _ _ => rfl

theorem takeClearMarks_keeps {mask : BitVec 32} : (takeClearMarks mask s).Keeps fits ended s :=
  ⟨Keeps.trans .closeWindow .clearMarks, trivial⟩

theorem takeClearEvents_keeps {mask : BitVec 48} (powered : s.powered = true) : (takeClearEvents mask s).Keeps fits ended s :=
  ⟨Keeps.closeWindow.trans (.withFlags powered), trivial⟩

/-- The owner of each command of 8.9; an event has none. -/
theorem owner_keeps (powered : s.powered = true) (c : Instr) : (owner c s).Keeps (Carried c) ended s := by
  cases c with
  | enter => exact takeEnter_keeps id
  | amend => exact takeAmend_keeps id
  | suspend => exact takeSuspend_keeps
  | resume => exact takeResume_keeps
  | retire => exact takeRetire_keeps
  | pin => exact takePin_keeps
  | unpin => exact takeUnpin_keeps
  | locate => exact takeLocate_keeps
  | openWindow => exact takeOpenWindow_keeps
  | writeNext => exact takeWriteNext_keeps id
  | readNext => exact takeReadNext_keeps
  | clearMarks => exact takeClearMarks_keeps
  | setChannel => exact takeSetChannel_keeps
  | setScan => exact takeSetScan_keeps
  | setPortal => exact takeSetPortal_keeps powered
  | setRole => exact takeSetRole_keeps powered
  | setManual => exact takeSetManual_keeps
  | setAuto => exact takeSetAuto_keeps
  | setStages => exact takeSetStages_keeps
  | setCompute => exact takeSetCompute_keeps powered
  | setMaintenance => exact takeSetMaintenance_keeps id
  | setCurve => exact takeSetCurve_keeps
  | force | unforce | limit | unlimit => exact takeMask_keeps fun _ => keeps_changeOverrides powered
  | freeze | unfreeze => exact takeMask_keeps fun _ => .withOverrides
  | setInput => exact takeSetInput_keeps powered
  | setLines => exact takeSetLines_keeps
  | setLink => exact takeSetLink_keeps
  | setMask => exact .ite (fun _ => .refused) fun _ => .done (keeps_setMask powered)
  | clearEvents => exact takeClearEvents_keeps powered
  | store => exact .ite (fun _ => .refused) fun _ => .done keeps_beginWrite
  | restart => exact .ite (fun _ => .refused) fun _ => ⟨.closeWindow, trivial⟩
  | readMarks | readInputs | readStatus => exact ⟨.closeWindow, trivial⟩
  | lookup | readChannel | readPortal | readTables | readLine | find =>
    simp only [owner, takeLookup, takeReadChannel, takeReadPortal, takeReadTables, takeReadLine, takeFind]
    split
    all_goals first | exact .refused | exact .read
  | _ => exact .refused

/-! ### Dispatch and the link unit -/

/-- The receive state replaced by one that holds nothing back out of range. -/
theorem keeps_withReceive {r : Receive}
    (held : RangesHold s → ∀ response held, r = .turnaround response held ∨ r = .sending response held → held.InRange) :
    Keeps fits ended s (withReceive r s) :=
  .withLink held

theorem keeps_withReceive_unanswered {r : Receive} (receiving : ∀ response held, ¬(r = .turnaround response held ∨ r = .sending response held)) :
    Keeps fits ended s (withReceive r s) :=
  keeps_withReceive fun _ response held answered => absurd answered (receiving response held)

theorem keeps_asleep : Keeps fits ended s (withReceive .asleep s) :=
  keeps_withReceive_unanswered fun _ _ => by simp

theorem keeps_answer {response : Response} {held : Held} (inRange : held.InRange) :
    Keeps fits ended s (withReceive (.turnaround response held) s) :=
  keeps_withReceive fun _ _ _ answered => by
    rcases answered with answered | answered <;> cases answered
    exact inRange

theorem keeps_deliver {dest : Dest} {take : State → Verdict} (kept : (take s).Keeps fits ended s) : Keeps fits ended s (deliver dest take s) := by
  unfold deliver
  split
  next => exact keeps_answer trivial
  next verdict =>
    rw [verdict] at kept
    exact kept.1.trans (keeps_answer kept.2)
  next => exact keeps_asleep
  next verdict =>
    rw [verdict] at kept
    exact kept.1.trans keeps_asleep

theorem keeps_completeHeld {held : Held} (waits : RangesHold s → held.InRange) : Keeps fits ended s (completeHeld held s) := by
  cases held with
  | nothing => exact keeps_asleep
  | restart => exact keeps_restartNow
  | setLink station baud =>
    refine Keeps.trans (t := writeLink station baud s) (.settings rfl rfl rfl fun _ before => ?_) keeps_asleep
    obtain ⟨channels, scan, portals, curves, rows, thresholds, compute, limit, -⟩ := before.2.1
    exact ⟨channels, scan, portals, curves, rows, thresholds, compute, limit, waits before⟩

/-- What a response in preparation or under way holds back is in range. -/
theorem RangesHold.held {response : Response} {held : Held} (ranges : RangesHold s)
    (answering : s.link.receive = .turnaround response held ∨ s.link.receive = .sending response held) : held.InRange :=
  ranges.2.2.2.2 response held answering

theorem keeps_wholeMessage {dest : Dest} {take : State → Verdict} (kept : (take s).Keeps fits ended s) :
    Keeps fits ended s (wholeMessage dest take s) := by
  unfold wholeMessage
  split
  next => exact .refl
  next receiving => exact keeps_completeHeld fun ranges => ranges.held (.inl receiving)
  next receiving => exact keeps_completeHeld fun ranges => ranges.held (.inl receiving)
  all_goals exact keeps_deliver kept

theorem messageOwner_keeps (powered : s.powered = true) {dest : Dest} {content : List Byte} :
    (messageOwner dest content s).Keeps fits ended s := by
  unfold messageOwner
  split
  next c decoded =>
    have kept := owner_keeps (ended := ended) powered c
    cases verdict : owner c s with
    | refused why => exact .refused
    | taken after data held =>
      rw [verdict] at kept
      obtain ⟨effect, inRange⟩ := kept
      have carried := carried_of_decodeMessage decoded
      exact ⟨{ effect with ranges := fun _ => effect.ranges carried, entries := fun _ => effect.entries carried }, inRange⟩
  next => exact .refused

theorem keeps_dispatch (powered : s.powered = true) {dest : Dest} {content : List Byte} : Keeps fits ended s (dispatch dest content s) := by
  cases dest with
  | station => exact keeps_deliver (messageOwner_keeps powered)
  | broadcast => exact .ite (fun _ => keeps_deliver (messageOwner_keeps powered)) fun _ => keeps_asleep

theorem keeps_judge {value : Byte} : Keeps fits ended s (judge value s) :=
  .ite (fun _ => keeps_withReceive_unanswered fun _ _ => by simp) fun _ =>
    .ite (fun _ => keeps_withReceive_unanswered fun _ _ => by simp) fun _ => keeps_asleep

theorem keeps_addressReceived {value : Byte} : Keeps fits ended s (addressReceived value s) := by
  unfold addressReceived
  split
  next => exact keeps_judge
  next => exact keeps_judge
  next => exact keeps_judge
  next => exact keeps_judge
  next receiving => exact keeps_completeHeld fun ranges => ranges.held (.inl receiving)
  next receiving => exact keeps_completeHeld fun ranges => ranges.held (.inl receiving)
  next => exact .refl

theorem keeps_dataReceived (powered : s.powered = true) {value : Byte} : Keeps fits ended s (dataReceived value s) := by
  unfold dataReceived
  split
  next => exact .ite (fun _ => keeps_withReceive_unanswered fun _ _ => by simp) fun _ => keeps_asleep
  next =>
    exact .ite (fun _ => keeps_withReceive_unanswered fun _ _ => by simp) fun _ =>
      .ite (fun _ => keeps_dispatch powered) fun _ => keeps_asleep
  all_goals exact .refl

/-! ### Events -/

theorem keeps_whenPowered {f : State → State} (kept : s.powered = true → Keeps fits ended s (f s)) : Keeps fits ended s (whenPowered f s) :=
  .ite kept fun _ => .refl

/-- What a line's event does to the transaction in flight. -/
theorem keepsChannel_aged : KeepsChannel aged := by
  refine ⟨fun e free => ?_, fun e _ => ?_, fun e _ => ?_⟩
  all_goals
    unfold aged
    split_ifs
    all_goals first | exact free | rfl

theorem Entry.InRange.aged {limit : Nat} {e : Entry} (inRange : e.InRange limit) : (aged e).InRange limit := by
  have parts := inRange
  obtain ⟨-, q, age, sub, rest⟩ := parts
  unfold Machine.aged
  split_ifs with lit old due
  · exact ⟨fun absent => absurd absent lit.1, q, age, Nat.zero_le _, rest⟩
  · exact ⟨fun absent => absurd absent lit.1, q, by simp only; omega, Nat.zero_le _, rest⟩
  · exact ⟨fun absent => absurd absent lit.1, q, age, by simp only; omega, rest⟩
  · exact inRange

theorem keeps_complete {scan : Scan} {raw : Nat} (powered : s.powered = true) : Keeps fits ended s (complete scan raw s) := by
  refine Keeps.trans .withScanner ((Keeps.reportIf ?_).trans (.reportIf ?_))
  · exact powered
  · exact (reportIf_powered ..).trans powered

theorem keeps_writeEnded {good : Bool} {image : Image} (ends : good = true → ended) (writing : s.store.state = .writing image) (powered : s.powered = true) :
    Keeps fits ended s (writeEnded good image s) := by
  refine .ite (fun matched => ?_) fun _ => Keeps.trans (t := withStore (fun st => { st with state := .failed }) s) ?_ (.report powered)
  · exact
      { pending := rfl
        channels := fun before => ⟨before.1, before.2.2 image writing, nofun⟩
        queues := id
        drives := id
        output := id
        descends := id
        ranges := fun _ before => ⟨before.1, before.2.1, before.2.2.2.1 image writing, nofun, before.2.2.2.2⟩
        window := id
        entries := fun _ _ before => ⟨before.1, before.2.2 image writing, nofun⟩
        unfinished := fun _ busy => absurd rfl busy
        record := fun other => absurd (ends matched) other }
  · exact
      { pending := rfl
        channels := fun before => ⟨before.1, before.2.1, nofun⟩
        queues := id
        drives := id
        output := id
        descends := id
        ranges := fun _ before => ⟨before.1, before.2.1, before.2.2.1, nofun, before.2.2.2.2⟩
        window := id
        entries := fun _ _ before => ⟨before.1, before.2.1, nofun⟩
        unfinished := fun before _ => before (by rw [writing]; exact nofun)
        record := fun _ => id }

theorem keeps_powerLoss : ∃ t, execPowerLoss s = .next t ∧ Keeps fits ended s t :=
  ⟨_, rfl,
    { pending := rfl
      channels := fun before => ⟨before.1, before.2.1, nofun⟩
      queues := fun before l => by
        simp only [Tbl.get_map]
        exact before l
      drives := fun _ => (drivesForward_iff _).mpr fun l => by
        simp only [Tbl.get_map]
        exact rfl
      output := fun _ => rfl
      descends := id
      ranges := fun _ before => ⟨before.1, before.2.1, before.2.2.1, nofun, fun _ _ answered => (by
        rcases answered with answered | answered <;> cases answered)⟩
      window := id
      entries := fun _ _ before => ⟨before.1, before.2.1, nofun⟩
      unfinished := fun _ busy => absurd rfl busy
      record := fun _ => id }⟩

/-- A line's event that acts on its transaction in flight keeps what its action keeps. -/
theorem keeps_inFlight {l : Fin 4} {act : Transaction → State} (kept : ∀ t, (s.lines.get l).inFlight = some t → Keeps fits ended s (act t)) :
    Keeps fits ended s (match (s.lines.get l).inFlight with
      | some t => act t
      | none => s) := by
  split
  next t flight => exact kept t flight
  next => exact .refl

theorem keeps_forwardFrameEnd {l : Fin 4} {t : Transaction} :
    Keeps fits ended s (modifyLine l (frameEnded t) s) := by
  refine .modifyLine (.silent id rfl fun u ended => ?_)
  cases ended
  cases h : t.kind <;> simp [phaseAfterForward]

theorem keeps_replyOutcome {l : Fin 4} {t : Transaction} {received : Option BackwardSignal} {reply : Reply} (powered : s.powered = true)
    (flight : (s.lines.get l).inFlight = some t) (formed : outcomeOf t received = some reply) :
    Keeps fits ended s (outcomeEffect l t reply (modifyLine l (fun u => { u with inFlight := some { t with phase := .gap } }) s)) := by
  refine Keeps.trans ?_ (keeps_outcomeEffect powered (outcomeOf_bounded formed))
  refine .modifyLine (.phase flight ?_ (by simp))
  rcases outcomeOf_phase formed with phase | phase <;> rw [phase] <;> exact nofun

theorem keeps_transactionEnd {l : Fin 4} (ending : transactionEnding (s.lines.get l) = true) :
    Keeps fits ended s (consider l (modifyLine l (fun u => { u with inFlight := none, aborting := false }) s)) := by
  refine Keeps.trans (.modifyLine ⟨id, fun drives => ?_⟩) keeps_consider
  unfold LineUnit.Drives at *
  unfold transactionEnding at ending
  split at ending
  next t flight =>
    simp only [Bool.and_eq_true, decide_eq_true_eq] at ending
    rw [flight] at drives
    exact drives.trans (if_neg (by rw [ending.1]; exact nofun))
  next flight =>
    rw [flight] at drives
    exact drives

theorem keeps_probeEnd {l : Fin 4} (clean : cleanProbe (s.lines.get l) = true) :
    Keeps fits ended s (consider l (modifyLine l (fun u =>
      { u with faulted := false, contentions := 0, faultWait := .idle, inFlight := none }) s)) := by
  refine Keeps.trans (.modifyLine ⟨id, fun drives => ?_⟩) keeps_consider
  unfold LineUnit.Drives at *
  unfold cleanProbe at clean
  split at clean
  next t flight =>
    simp only [Bool.and_eq_true, decide_eq_true_eq] at clean
    rw [flight] at drives
    exact drives.trans (if_neg (by rw [clean.2]; exact nofun))
  next => cases clean

theorem keeps_edgeSeen {l : Fin 4} {t : Transaction} {micros : Nat} (flight : (s.lines.get l).inFlight = some t)
    (window : t.phase = .window) : Keeps fits ended s (modifyLine l (fun u => { u with inFlight := some (edgeSeen micros t) }) s) := by
  refine .modifyLine (.phase flight (by rw [window]; exact nofun) ?_)
  unfold edgeSeen
  split_ifs <;> simp [window]

/-- Every command and every event answers a next state, and keeps the conditions of a run. -/
theorem exec_keeps (c : Instr) (s : State) : ∃ t, exec c s = .next t ∧ Keeps (Carried c) (c = .storeWriteComplete true) s t := by
  cases message : encodeMessage c with
  | some carried =>
    obtain ⟨dest, content⟩ := carried
    exact ⟨_, exec_of_encodes message s, keeps_whenPowered fun powered => keeps_wholeMessage (owner_keeps powered c)⟩
  | none =>
    cases c with
    | fullReset => exact ⟨_, rfl, keeps_fullReset⟩
    | ageTickExpiry =>
      refine ⟨_, rfl, keeps_whenPowered fun _ => .ite (fun _ => ?_) fun _ => .refl⟩
      exact Keeps.trans (.map_slots keepsChannel_aged fun _ _ inRange => inRange.aged) .ageTick
    | scanTimerExpiry =>
      refine ⟨_, rfl, keeps_whenPowered fun powered => .ite (fun _ => ?_) fun _ => .refl⟩
      dsimp only
      split
      · exact Keeps.trans .withScanner (.report powered)
      · exact Keeps.trans .withScanner .withScanner
    | conversionComplete raw =>
      refine ⟨_, rfl, keeps_whenPowered fun powered => ?_⟩
      split
      · exact keeps_complete powered
      · exact .refl
    | updateTimerExpiry p =>
      exact ⟨_, rfl, keeps_whenPowered fun powered => .ite (fun _ => (keeps_update powered).trans keeps_considerAll) fun _ => .refl⟩
    | inputLevelChange i level => exact ⟨_, rfl, .ite (fun _ => .refl) fun _ => .withOverrides⟩
    | debounceExpiry i =>
      refine ⟨_, rfl, keeps_whenPowered fun powered => ?_⟩
      dsimp only
      split
      · exact .ite (fun _ => keeps_changeOverrides powered) fun _ => .refl
      · exact .refl
    | forwardFrameEnd l =>
      exact ⟨_, rfl, keeps_whenPowered fun _ => keeps_inFlight fun t _ => .ite (fun _ => keeps_forwardFrameEnd) fun _ => .refl⟩
    | contention l =>
      exact ⟨_, rfl, keeps_whenPowered fun powered => keeps_inFlight fun t _ => .ite (fun _ => keeps_contend powered) fun _ => .refl⟩
    | replyOutcome l received =>
      refine ⟨_, rfl, keeps_whenPowered fun powered => keeps_inFlight fun t flight => ?_⟩
      split
      next formed => exact keeps_replyOutcome powered flight formed
      next => exact .refl
    | transactionEnd l => exact ⟨_, rfl, keeps_whenPowered fun _ => .ite keeps_transactionEnd fun _ => .refl⟩
    | faultWaitExpiry l =>
      refine ⟨_, rfl, keeps_whenPowered fun _ => .ite (fun _ => .modifyLine ?_) fun _ => .refl⟩
      exact .start (v := s.lines.get l) id ⟨rfl, rfl, rfl⟩
    | probeEnd l => exact ⟨_, rfl, keeps_whenPowered fun _ => .ite keeps_probeEnd fun _ => .refl⟩
    | addressCharacter value => exact ⟨_, rfl, keeps_whenPowered fun _ => keeps_addressReceived⟩
    | dataCharacter value => exact ⟨_, rfl, keeps_whenPowered fun powered => keeps_dataReceived powered⟩
    | gapTimerExpiry => exact ⟨_, rfl, keeps_whenPowered fun _ => .ite (fun _ => keeps_asleep) fun _ => .refl⟩
    | responseStart =>
      refine ⟨_, rfl, keeps_whenPowered fun _ => ?_⟩
      split
      next receiving =>
        refine keeps_withReceive fun ranges _ _ answered => ?_
        rcases answered with answered | answered <;> cases answered
        exact ranges.held (.inl receiving)
      all_goals exact .refl
    | responseEnd =>
      refine ⟨_, rfl, keeps_whenPowered fun _ => ?_⟩
      split
      next receiving => exact keeps_completeHeld fun ranges => ranges.held (.inr receiving)
      all_goals exact .refl
    | storeWriteComplete good =>
      refine ⟨_, rfl, keeps_whenPowered fun powered => ?_⟩
      split
      next writing => exact keeps_writeEnded (by rintro rfl; rfl) writing powered
      all_goals exact .refl
    | spoiledCharacter =>
      refine ⟨_, rfl, keeps_whenPowered fun _ => ?_⟩
      split
      all_goals first | exact keeps_asleep | exact .refl
    | backwardFrameStart l micros =>
      exact ⟨_, rfl, keeps_whenPowered fun _ => keeps_inFlight fun t flight => .ite (keeps_edgeSeen flight) fun _ => .refl⟩
    | powerLoss => exact keeps_powerLoss
    | _ => cases message

end Owners

end Sys2Proof.Machine
end

/-! PROOFS. The step and what it keeps: O54 to O59, O2, O1, O53, and the reset state's O60, O3, O5. -/
section
namespace Sys2Proof.Machine

open Sys2Proof

/-! ### The step -/

theorem step_of_empty {s : State} (idle : s.pending = []) : step s = .next s := by
  rw [step, idle]

theorem step_of_cons {s : State} {c : Instr} {rest : List Instr} (front : s.pending = c :: rest) :
    step s = exec c (withPending rest s) := by
  rw [step, front]

/-- What one step keeps, whatever the front command's fields; `ended` holds at a write's matching read-back alone. -/
theorem step_keeps {s t : State} (stepped : step s = .next t) :
    s.pending = [] ∧ t = s ∨
      ∃ c rest, s.pending = c :: rest ∧ Keeps (Carried c) (c = .storeWriteComplete true) (withPending rest s) t := by
  cases front : s.pending with
  | nil =>
    rw [step_of_empty front] at stepped
    cases stepped
    exact .inl ⟨rfl, rfl⟩
  | cons c rest =>
    obtain ⟨next, executed, kept⟩ := exec_keeps c (withPending rest s)
    rw [step_of_cons front, executed] at stepped
    cases stepped
    exact .inr ⟨c, rest, rfl, kept⟩

/-- A condition that reads nothing of the queue of waiting commands, kept by a step. -/
theorem step_preserves {C : State → Prop} (unqueued : ∀ rest s, C s → C (withPending rest s))
    (keeps : ∀ {fits ended : Prop} {s t : State}, Keeps fits ended s t → C s → C t) (s t : State) (before : C s) (stepped : step s = .next t) :
    C t := by
  rcases step_keeps stepped with ⟨-, rfl⟩ | ⟨c, rest, -, kept⟩
  · exact before
  · exact keeps kept (unqueued rest s before)

/-- The rest of the queue fits its messages where the whole does. -/
theorem rangesHold_rest {s : State} {c : Instr} {rest : List Instr} (front : s.pending = c :: rest) (before : RangesHold s) :
    RangesHold (withPending rest s) :=
  ⟨fun d member => before.1 d (front ▸ List.mem_cons_of_mem c member), before.2⟩

theorem carried_of_front {s : State} {c : Instr} {rest : List Instr} (front : s.pending = c :: rest) (before : RangesHold s) : Carried c :=
  carried_of_wf (before.1 c (front ▸ List.mem_cons_self))

end Sys2Proof.Machine

open Sys2Proof Sys2Proof.Machine

/-- Settles O54: every rule of `Keeps` leaves the entries of working memory, image and snapshot on distinct channels. -/
theorem channelsStayDistinct : Obligations.ChannelsStayDistinct :=
  step_preserves (fun _ _ => id) (·.channels)

/-- Settles O55: a line changes by `LineUnit.Keeps` alone, which keeps its queue keyed and its frame its transaction's. -/
theorem queuesStayKeyed : Obligations.QueuesStayKeyed :=
  ⟨step_preserves (fun _ _ => id) (·.queues), step_preserves (fun _ _ => id) (·.drives)⟩

/-- Settles O56: flags and mask change with the output formed from them. -/
theorem outputFollowsFlags : Obligations.OutputFollowsFlags :=
  step_preserves (fun _ _ => id) (·.output)

/-- Settles O57: the inward clamp of an update, the reset and SET_STAGES leave the stages descending, and nothing else raises one. -/
theorem entrancesStayDescending : Obligations.EntrancesStayDescending :=
  step_preserves (fun _ _ => id) (·.descends)

/-- Settles O58: the commands' own checks keep the settings in range, the message's field widths the thresholds. -/
theorem rangesKept : Obligations.RangesKept := by
  refine ⟨fun s t before stepped => ?_, step_preserves (fun _ _ => id) (·.window)⟩
  rcases step_keeps stepped with ⟨-, rfl⟩ | ⟨c, rest, front, kept⟩
  · exact before
  · exact kept.ranges (carried_of_front front before) (rangesHold_rest front before)

/-- Settles O59: each change of an entry keeps it in range, under the ranges of O58. -/
theorem entriesStayInRange : Obligations.EntriesStayInRange := by
  intro s t ranges before stepped
  rcases step_keeps stepped with ⟨-, rfl⟩ | ⟨c, rest, front, kept⟩
  · exact before
  · exact kept.entries (carried_of_front front ranges) (rangesHold_rest front ranges) before

/-- Settles O2: each command and each event answers a next state, and no rule of `Keeps` touches the queue. -/
theorem everyCommandCompletes : Obligations.EveryCommandCompletes := fun c s =>
  let ⟨t, executed, kept⟩ := exec_keeps c s
  ⟨t, executed, kept.pending⟩

/-- Settles O1. -/
theorem stepTakesFrontCommand : Obligations.StepTakesFrontCommand :=
  ⟨fun _ _ _ => rfl, fun _ => step_of_empty⟩

/-! ### The reset state -/

namespace Sys2Proof.Machine

theorem reset_entryAt (k : Fin 256) : entryAt State.reset k = Entry.freed := Tbl.get_fill _ _

theorem reset_line (l : Fin 4) : State.reset.lines.get l = LineUnit.initial := Tbl.get_fill _ _

theorem reset_portal (p : Fin 4) : State.reset.portals.get p = PortalLive.initial := Tbl.get_fill _ _

theorem entriesInRange_freed {limit : Nat} {slots : Tbl Entry 256} (free : slots = Tbl.fill 256 Entry.freed) (k : Fin 256) :
    (slots.get k).InRange limit := by
  subst free
  rw [Tbl.get_fill]
  exact freed_inRange limit

theorem reset_descends : EntrancesDescend State.reset := by
  intro p
  rw [reset_portal]
  unfold StagesDescend
  revert p
  decide

theorem lineHeld_reset (l : Fin 4) : lineHeld State.reset l = false := by
  rw [lineHeld, List.any_eq_false]
  intro e member
  obtain ⟨k, rfl⟩ := Tbl.mem_cells.mp member
  rw [show State.reset.roster.slots.get k = Entry.freed from reset_entryAt k]
  simp [Entry.freed]

theorem lineState_reset (l : Fin 4) : lineState State.reset l = .idle := by
  rw [lineState, lineHeld_reset, reset_line, show State.reset.settings.enables.get l = true from Tbl.get_fill _ _]
  rfl

end Sys2Proof.Machine

/-- Settles O60: the reset state meets each condition, by the defaults' own ranges and the FREE slots. -/
theorem resetMeetsInvariants : Obligations.ResetMeetsInvariants := by
  refine ⟨⟨distinctChannels_free _ rfl, distinctChannels_free _ rfl, nofun⟩, nofun, fun l => ?_, fun l => ?_, ?_, reset_descends, ?_, ?_, ?_⟩
  · rw [reset_line]
    exact List.nodup_nil
  · rw [reset_line]
    rfl
  · exact (show State.reset.events.output = faultOutputOf State.reset.events.flags State.reset.settings.mask by decide)
  · exact ⟨nofun, settings_defaults_inRange, settings_defaults_inRange, nofun, fun _ _ answering => (by rcases answering with h | h <;> cases h)⟩
  · exact ⟨fun k => entriesInRange_freed rfl k, fun k => entriesInRange_freed rfl k, nofun⟩
  · exact fun _ => rfl

/-- Settles O3: every table of the reset state is a fill or a short list. -/
theorem resetState : Obligations.ResetState := by
  refine ⟨rfl, fun ch => Tbl.get_fill _ _, by decide, rfl, by decide, fun cls => ?_, rfl, rfl, fun i => Tbl.get_fill _ _, by decide,
    fun l => Tbl.get_fill _ _, rfl, rfl, reset_entryAt, by decide, rfl, rfl, fun ch => Tbl.get_fill _ _, rfl, rfl, fun p => ?_,
    fun i => ?_, rfl, fun l => ?_, rfl, by decide, rfl, rfl, rfl⟩
  · rw [show State.reset.settings.curves.get cls = Curve.straightLine from Tbl.get_fill _ _]
    decide
  · simp only [reset_portal]
    decide
  · rw [show State.reset.overrides.inputs.get i = InputLive.initial .deenergised from Tbl.get_fill _ _]
    exact ⟨rfl, rfl⟩
  · simp only [reset_line]
    exact ⟨rfl, rfl, rfl, rfl, rfl, rfl, lineState_reset l⟩

/-! ### The loss of the supply -/

namespace Sys2Proof.Machine

/-- Every command and event but three acts in a powered part alone (R174, log 16). -/
theorem exec_eq_whenPowered {c : Instr} (reset : c ≠ .fullReset) (loss : c ≠ .powerLoss) (level : ∀ i l, c ≠ .inputLevelChange i l) :
    ∃ f, ∀ s, exec c s = .next (whenPowered f s) := by
  cases message : encodeMessage c with
  | some carried =>
    obtain ⟨dest, content⟩ := carried
    exact ⟨_, fun s => exec_of_encodes message s⟩
  | none =>
    cases c with
    | fullReset => exact absurd rfl reset
    | powerLoss => exact absurd rfl loss
    | inputLevelChange i l => exact absurd rfl (level i l)
    | ageTickExpiry | scanTimerExpiry | conversionComplete | updateTimerExpiry | debounceExpiry | forwardFrameEnd | contention
    | replyOutcome | transactionEnd | faultWaitExpiry | probeEnd | addressCharacter | dataCharacter | gapTimerExpiry | responseStart
    | responseEnd | storeWriteComplete | spoiledCharacter | backwardFrameStart => exact ⟨_, fun _ => rfl⟩
    | _ => cases message

theorem fullReset_overrides (s : State) :
    (fullReset s).overrides = ⟨s.overrides.inputs.map fun i => InputLive.initial i.physical, 0#4, 0#4, 0#4⟩ := by
  unfold fullReset
  split_ifs <;> simp [reinitialise]

theorem exec_inputLevelChange_unpowered {s : State} {i : Fin 6} {level : InputLevel} (unpowered : s.powered = false) :
    exec (.inputLevelChange i level) s = .next (putInput i { s.overrides.inputs.get i with physical := level } s) := by
  refine congrArg Host.Outcome.next ?_
  split_ifs with same
  · subst same
    rw [putInput, Tbl.set_get_self]
  · simp [movedInput, unpowered, withInput, putInput]

end Sys2Proof.Machine

/-- Settles O5. -/
theorem powerLossStopsPart : Obligations.PowerLossStopsPart := by
  refine ⟨fun s => ⟨_, rfl, rfl, rfl, rfl, fun l => ?_, rfl, rfl, rfl, rfl, rfl⟩, fun c s unpowered reset loss level => ?_,
    fun s i level unpowered => ⟨_, rfl, exec_inputLevelChange_unpowered unpowered, fun t executed => ?_⟩⟩
  · rw [Tbl.get_map]
    exact ⟨rfl, rfl⟩
  · obtain ⟨f, executed⟩ := exec_eq_whenPowered reset loss level
    rw [executed, whenPowered_of_unpowered unpowered]
  · cases executed
    rw [fullReset_overrides, Tbl.get_map]
    simp [putInput, InputLive.initial, Config.debounceMs]

/-! ### The store -/

namespace Sys2Proof.Machine

theorem atReset_of_empty {e : Entry} (empty : e.state = .free ∨ e.state = .retiring) : e.atReset = Entry.freed := by
  rcases empty with h | h <;> simp [Entry.atReset, h]

theorem atReset_of_kept {e : Entry} (kept : ¬(e.state = .free ∨ e.state = .retiring)) :
    e.atReset = { e with health := .unknown, miss := 0, unreachable := false, setLevel := 0, confirmed := none, sub := 0 } := by
  cases h : e.state <;> simp_all [Entry.atReset]

theorem imageGood_written (image : Image) :
    imageGood { state := .idle, image := image, check := -(imageSum image), complete := true } = true := by
  simp [imageGood]

/-- The end of a write finds its occasion in a powered part that is WRITING, or leaves the state. -/
theorem exec_storeWriteComplete {good : Bool} {s : State} {snapshot : Image} (powered : s.powered = true)
    (writing : s.store.state = .writing snapshot) : exec (.storeWriteComplete good) s = .next (writeEnded good snapshot s) := by
  refine congrArg Host.Outcome.next ?_
  rw [whenPowered_of_powered powered, writing]

theorem exec_storeWriteComplete_idle {good : Bool} {s : State}
    (none : ¬(s.powered = true ∧ ∃ snapshot, s.store.state = .writing snapshot)) : exec (.storeWriteComplete good) s = .next s := by
  refine congrArg Host.Outcome.next ?_
  unfold whenPowered
  split_ifs with powered
  · dsimp only
    split
    next snapshot writing => exact absurd ⟨powered, snapshot, writing⟩ none
    all_goals rfl
  · rfl

/-- Only a write's matching read-back completes the record (R180, R181). -/
theorem step_leaves_incomplete {s t : State} (incomplete : s.store.complete = false)
    (other : ¬(s.powered = true ∧ s.pending.head? = some (.storeWriteComplete true) ∧ ∃ snapshot, s.store.state = .writing snapshot))
    (stepped : step s = .next t) : t.store.complete = false := by
  rcases step_keeps stepped with ⟨-, rfl⟩ | ⟨c, rest, front, kept⟩
  · exact incomplete
  · by_cases ends : c = .storeWriteComplete true
    · subst ends
      rw [step_of_cons front, exec_storeWriteComplete_idle (s := withPending rest s) fun occasion => other ⟨occasion.1, by rw [front]; rfl, occasion.2⟩] at stepped
      cases stepped
      exact incomplete
    · exact kept.record ends incomplete

end Sys2Proof.Machine

/-- Settles O53. -/
theorem storeResult : Obligations.StoreResult := by
  refine ⟨fun s heard => ⟨snapshotOf s, rfl, fun k => ?_, ?_⟩, fun s snapshot powered writing => ⟨⟨_, ?_, imageGood_written snapshot⟩, ?_, ?_⟩,
    step_preserves (fun _ _ => id) (·.unfinished), fun _ _ => step_leaves_incomplete⟩
  · simp only [snapshotOf, Tbl.get_map]
    split_ifs with empty
    · exact atReset_of_empty empty
    · exact atReset_of_kept empty
  · split_ifs with busy
    · exact command_refused heard (if_pos busy)
    · exact command_taken heard (if_neg busy)
  · exact exec_storeWriteComplete powered writing
  · exact exec_storeWriteComplete powered writing
  · intro bad
    rw [imageGood, show ({ s.store with state := .failed } : Store).complete = false from bad (by rw [writing]; exact nofun)]
    rfl
end

/-! PROOFS. What a heard command to the station leaves, by its owner's verdict; the reads (O17) and the roster's commands on one slot
(O18, O20 to O23). -/
section
namespace Sys2Proof.Tbl

variable {α β : Type} {n : Nat}

theorem cells_eq (t : Tbl α n) : t.cells = (List.finRange n).map t.get :=
  congrArg Tbl.cells (ext_get (u := tabulate t.get) fun i => (get_tabulate t.get i).symm)

theorem indexed_eq (t : Tbl α n) : t.indexed = (List.finRange n).map fun i => (i, t.get i) := by
  rw [indexed, cells_eq, List.zip_map_right]
  apply List.ext_getElem <;> simp

/-- The position of the first record that a search of the table finds. -/
theorem find?_indexed (t : Tbl α n) (p : Fin n × α → Bool) : (t.indexed.find? p).map (·.1) = Fin.find? fun i => p (i, t.get i) := by
  rw [indexed_eq, List.find?_map, Fin.find?_eq_find?_finRange, Option.map_map]
  exact congrFun Option.map_id _

end Sys2Proof.Tbl

namespace Sys2Proof.Machine

open Sys2Proof

/-! ### The answer to a command (R162 to R165) -/

/-- The state that a command to the station leaves, from its owner's verdict. -/
def answered (s : State) : Verdict → State
  | .refused why => refusedAs s why
  | .taken after data held => { after with link := answering s .done data held }

@[simp] theorem answered_refused (s : State) (why : Status) : answered s (.refused why) = refusedAs s why := rfl

@[simp] theorem answered_done (s : State) (effect : State → State) (data : State → List Byte) :
    answered s (done effect data s) = takenAs s (effect (closeWindow s)) (data s) := rfl

@[simp] theorem answered_taken (s after : State) (data : List Byte) : answered s (.taken after data .nothing) = takenAs s after data := rfl

@[simp] theorem answered_ite (s : State) (c : Prop) [Decidable c] (v w : Verdict) :
    answered s (if c then v else w) = if c then answered s v else answered s w := apply_ite ..

/-- The step of a heard command to the station. -/
theorem command_station {s : State} (heard : hears s = true) (take : State → Verdict) :
    command .station take s = .next (answered s (take s)) := by
  cases verdict : take s with
  | refused why => exact command_refused heard verdict
  | taken after data held => exact command_taken heard verdict

/-- A heard command's step named by what its owner's verdict leaves. -/
theorem command_station_eq {s t : State} (heard : hears s = true) {take : State → Verdict} (left : answered s (take s) = t) :
    command .station take s = .next t :=
  left ▸ command_station heard take

/-! ### The reads (R26, R31, R51, R74, R114, R126, R154, R178) -/

/-- A read of a numbered record is taken for a number in range, and refused with RANGE otherwise. -/
theorem numbered_read {s : State} (heard : hears s = true) {take : State → Verdict} {k n : Nat} (read : Fin k → List Byte)
    (reads : take s = (idOf k n).elim (.refused .range) fun i => .taken (closeWindow s) (read i) .nothing) :
    command .station take s = .next (if h : n < k then takenAs s (closeWindow s) (read ⟨n, h⟩) else refusedAs s .range) := by
  refine command_station_eq heard ?_
  split_ifs with inside
  · rw [reads, idOf_of_lt inside]
    rfl
  · rw [reads, idOf_none (Nat.le_of_not_lt inside)]
    rfl

theorem takeLookup_eq (slot : Nat) (s : State) : takeLookup slot s =
    (idOf 256 slot).elim (.refused .range) fun k => .taken (closeWindow s) (entryRecordBytes k (entryAt s k)) .nothing := by
  rw [takeLookup]
  cases idOf 256 slot <;> rfl

theorem takeReadChannel_eq (channel : Nat) (s : State) : takeReadChannel channel s =
    (idOf 8 channel).elim (.refused .range) fun ch => .taken (closeWindow s) (channelRecordBytes s ch) .nothing := by
  rw [takeReadChannel]
  cases idOf 8 channel <;> rfl

theorem takeReadPortal_eq (portal : Nat) (s : State) : takeReadPortal portal s =
    (idOf 4 portal).elim (.refused .range) fun p =>
      .taken (closeWindow s) (portalRecordBytes (s.settings.portals.get p) (s.portals.get p)) .nothing := by
  rw [takeReadPortal]
  cases idOf 4 portal <;> rfl

theorem takeReadTables_eq (cls : Nat) (s : State) : takeReadTables cls s =
    (idOf 4 cls).elim (.refused .range) fun c =>
      .taken (closeWindow s) (tablesBytes (s.settings.curves.get c) s.settings.maintenance s.settings.compute) .nothing := by
  rw [takeReadTables]
  cases idOf 4 cls <;> rfl

theorem takeReadLine_eq (line : Nat) (s : State) : takeReadLine line s =
    (idOf 4 line).elim (.refused .range) fun l => .taken (closeWindow s) (lineBytes s l) .nothing := by
  rw [takeReadLine]
  cases idOf 4 line <;> rfl

theorem slotHolding_eq_some_iff (s : State) (line : Fin 4) (address : Fin 64) (k : Fin 256) :
    slotHolding s line address = some k ↔
      ((entryAt s k).state ≠ .free ∧ (entryAt s k).line = line ∧ (entryAt s k).address = address) ∧
        ∀ j < k, ¬((entryAt s j).state ≠ .free ∧ (entryAt s j).line = line ∧ (entryAt s j).address = address) := by
  rw [slotHolding, Tbl.find?_indexed, Fin.find?_eq_some_iff]
  simp only [Bool.and_eq_true, decide_eq_true_eq, and_assoc, ← Bool.not_eq_true, entryAt]

theorem slotHolding_eq_none_iff (s : State) (line : Fin 4) (address : Fin 64) :
    slotHolding s line address = none ↔
      ∀ k, (entryAt s k).state = .free ∨ (entryAt s k).line ≠ line ∨ (entryAt s k).address ≠ address := by
  rw [slotHolding, Tbl.find?_indexed, Fin.find?_eq_none_iff]
  simp only [← Bool.not_eq_true, Bool.and_eq_true, decide_eq_true_eq, entryAt, not_and_or, not_not, or_assoc]

/-- The only entry that holds a line and address is the one FIND returns (R5, R26). -/
theorem slotHolding_of_distinct {s : State} {k : Fin 256} (distinct : DistinctChannels s.roster.slots) (held : (entryAt s k).state ≠ .free) :
    slotHolding s (entryAt s k).line (entryAt s k).address = some k := by
  refine (slotHolding_eq_some_iff ..).mpr ⟨⟨held, rfl, rfl⟩, fun j before same => ?_⟩
  exact absurd (distinct j k same.1 held same.2.1 same.2.2) before.ne

theorem exec_find {s : State} (heard : hears s = true) (line : Fin 4) (address : Fin 64) :
    exec (.find line.val address.val) s = .next (takenAs s (closeWindow s) (slotBytes (slotHolding s line address))) := by
  refine command_station_eq heard ?_
  rw [takeFind, idOf_val, idOf_val]
  rfl

theorem exec_find_out_of_range {s : State} (heard : hears s = true) {line address : Nat} (outside : 4 ≤ line ∨ 64 ≤ address) :
    exec (.find line address) s = .next (refusedAs s .range) := by
  refine command_station_eq heard ?_
  unfold takeFind
  split
  next l a hl ha =>
    rcases outside with outside | outside
    · rw [idOf_none outside] at hl
      cases hl
    · rw [idOf_none outside] at ha
      cases ha
  next => rfl

end Sys2Proof.Machine

open Sys2Proof Sys2Proof.Machine

/-- Settles O17: each read answers its record, and FIND's search stops at the one entry that holds the channel. -/
theorem readsReturnRecords : Obligations.ReadsReturnRecords := by
  intro s heard
  refine ⟨fun slot => numbered_read heard (fun k => entryRecordBytes k (entryAt s k)) (takeLookup_eq slot s),
    command_station heard takeReadMarks, fun channel => numbered_read heard (channelRecordBytes s) (takeReadChannel_eq channel s),
    fun portal => numbered_read heard (fun p => portalRecordBytes (s.settings.portals.get p) (s.portals.get p)) (takeReadPortal_eq portal s),
    fun cls => numbered_read heard (fun c => tablesBytes (s.settings.curves.get c) s.settings.maintenance s.settings.compute)
      (takeReadTables_eq cls s),
    fun line => numbered_read heard (lineBytes s) (takeReadLine_eq line s), command_station heard takeReadStatus,
    command_station heard takeReadInputs, fun _ _ => exec_find_out_of_range heard,
    fun line address => ⟨fun k distinct held sameLine sameAddress => ?_, fun none => ?_⟩⟩
  · subst sameLine
    subst sameAddress
    rw [exec_find heard, slotHolding_of_distinct distinct held]
    have high : k.val / 256 = 0 := Nat.div_eq_of_lt k.isLt
    simp [slotBytes, to2, high]
  · rw [exec_find heard, (slotHolding_eq_none_iff ..).mpr none]
    rfl
end

/-! PROOFS. The roster's commands on one slot: the queue's replacement rule (O23), ENTER (O18), SUSPEND and RESUME (O20), RETIRE (O21),
PIN, UNPIN and LOCATE (O22). -/
section
namespace Sys2Proof.Machine

open Sys2Proof

/-! ### Requests of one address (R134 to R137) -/

theorem enqueue_of_unqueued {new : Request} {queue : List Request} (unqueued : ∀ r ∈ queue, r.address ≠ new.address) :
    enqueue new queue = queue ++ [new] := by
  rw [enqueue, if_neg (Bool.not_eq_true _ ▸ (queuedFor_eq_false_iff ..).mpr unqueued)]

theorem enqueue_of_queued {new : Request} {queue : List Request} (queued : queuedFor new.address queue = true) :
    enqueue new queue = queue.map fun old => if old.address = new.address then replaceRequest new old else old :=
  if_pos queued

end Sys2Proof.Machine

open Sys2Proof Sys2Proof.Machine

/-- Settles O23. -/
theorem queueReplacement : Obligations.QueueReplacement := by
  refine fun new queue => ⟨enqueue_of_unqueued, fun queued => ?_⟩
  replace queued : queuedFor new.address queue = true := (queuedFor_iff ..).mpr queued
  refine ⟨map_address_enqueue queued, fun i old found => ?_⟩
  have placed : (enqueue new queue)[i]? = some (if old.address = new.address then replaceRequest new old else old) := by
    rw [enqueue_of_queued queued, List.getElem?_map, found]
    rfl
  refine ⟨fun other => by rw [placed, if_neg other], fun same => ⟨fun code level => ?_, fun made release => ?_⟩⟩
  · rw [placed, if_pos same, replaceRequest, level]
    cases old.kind <;> rfl
  · rw [placed, if_pos same, replaceRequest, release]

namespace Sys2Proof.Machine

/-! ### ENTER (R7, R8) -/

theorem lowestFree_eq_some_iff (s : State) (k : Fin 256) :
    lowestFree s = some k ↔ (entryAt s k).state = .free ∧ ∀ j < k, (entryAt s j).state ≠ .free := by
  rw [lowestFree, Tbl.find?_indexed, Fin.find?_eq_some_iff]
  simp only [decide_eq_true_eq, ← Bool.not_eq_true, entryAt]

theorem lowestFree_eq_none_iff (s : State) : lowestFree s = none ↔ ∀ k, (entryAt s k).state ≠ .free := by
  rw [lowestFree, Tbl.find?_indexed, Fin.find?_eq_none_iff]
  simp only [decide_eq_false_iff_not, entryAt]

theorem conflicts_iff (s : State) (slot : Option (Fin 256)) (line : Fin 4) (address : Fin 64) :
    conflicts s slot line address = true ↔
      ∃ k, slot ≠ some k ∧ (entryAt s k).state ≠ .free ∧ (entryAt s k).line = line ∧ (entryAt s k).address = address := by
  rw [← Bool.not_eq_false, conflicts_eq_false_iff]
  push Not
  simp only [ne_comm]

theorem slotAsked_named (named : Option (Fin 256)) : slotAsked ((named.map (·.val)).getD 0xFFFF) = some named := by
  cases named with
  | none => rfl
  | some k => rw [slotAsked, if_neg (by simp; omega)]; simp

theorem slotAsked_none {slot : Nat} (outside : 256 ≤ slot ∧ slot ≠ 0xFFFF) : slotAsked slot = none := by
  rw [slotAsked, if_neg outside.2, idOf_none outside.1]
  rfl

theorem pinFieldOf_code (code : Option (Fin 1024)) : pinFieldOf ((code.map (·.val)).getD 0xFFFF) = some (code.map (·.val)) := by
  cases code with
  | none => rfl
  | some c =>
    have inside := c.isLt
    simp only [pinFieldOf, Option.map_some, Option.getD_some]
    rw [if_neg (by omega), if_pos (by omega)]

theorem pinFieldOf_none {pin : Nat} (outside : 1023 < pin ∧ pin ≠ 0xFFFF) : pinFieldOf pin = none := by
  rw [pinFieldOf, if_neg outside.2, if_neg (Nat.not_le.mpr outside.1)]

theorem idOf_lt {k n : Nat} {i : Fin k} (found : idOf k n = some i) : n < k := by
  by_contra outside
  rw [idOf_none (Nat.le_of_not_lt outside)] at found
  cases found

theorem slotAsked_lt {slot : Nat} {asked : Option (Fin 256)} (found : slotAsked slot = some asked) : slot < 256 ∨ slot = 0xFFFF := by
  by_contra outside
  rw [slotAsked_none (by omega)] at found
  cases found

theorem pinFieldOf_inside {pin : Nat} {code : Option Nat} (found : pinFieldOf pin = some code) : pin ≤ 1023 ∨ pin = 0xFFFF := by
  by_contra outside
  rw [pinFieldOf_none (by omega)] at found
  cases found

/-- A field of ENTER out of its range (R7). -/
theorem takeEnter_out_of_range {s : State} {slot line address portal stage cls q age pin : Nat}
    (outside : 256 ≤ slot ∧ slot ≠ 0xFFFF ∨ 4 ≤ line ∨ 64 ≤ address ∨ 4 ≤ portal ∨ 8 ≤ stage ∨ 4 ≤ cls ∨ q < 1 ∨ 9999 < q ∨
      1023 < pin ∧ pin ≠ 0xFFFF) : takeEnter slot line address portal stage cls q age pin s = .refused .range := by
  unfold takeEnter
  split
  next asked l a p st c code hSlot hLine hAddress hPortal hStage hCls hPin =>
    have slotInside := slotAsked_lt hSlot
    have lineInside := idOf_lt hLine
    have addressInside := idOf_lt hAddress
    have portalInside := idOf_lt hPortal
    have stageInside := idOf_lt hStage
    have clsInside := idOf_lt hCls
    have pinInside := pinFieldOf_inside hPin
    refine if_neg fun inside => ?_
    obtain ⟨low, high⟩ := (qInRange_iff q).mp inside
    omega
  next => rfl

end Sys2Proof.Machine

/-- Settles O18: the checks in their order on the fields' typed values, and the search for the lowest FREE slot. -/
theorem enterResult : Obligations.EnterResult := by
  refine ⟨fun s slot line address portal stage cls q age pin heard => ⟨fun outside => command_station_eq heard ?_,
    fun l a p st c code named low high => command_station_eq heard ?_⟩, fun s => ⟨lowestFree_eq_some_iff s, lowestFree_eq_none_iff s⟩⟩
  · rw [takeEnter_out_of_range outside]
    rfl
  · rw [takeEnter, slotAsked_named]
    simp only [idOf_val, pinFieldOf_code, (qInRange_iff q).mpr ⟨low, high⟩, if_true, takeEnterChecked, answered_ite, answered_refused]
    refine ite_congr (by cases named <;> simp) (fun _ => rfl) fun _ => ite_congr ?_ (fun _ => rfl) fun _ => ?_
    · rw [eq_iff_iff, conflicts_iff]
      rfl
    · cases named.or (lowestFree s) with
      | none => rfl
      | some k => exact answered_ite ..

end

/-! PROOFS. The roster's commands on one slot: SUSPEND and RESUME (O20), RETIRE (O21), PIN, UNPIN and LOCATE (O22). -/
section
namespace Sys2Proof.Machine

open Sys2Proof

/-- A command on a slot: what it leaves for a slot in range, and its refusal with RANGE otherwise. -/
theorem slot_command {s : State} (heard : hears s = true) {take : State → Verdict} {slot : Nat} {left : slot < 256 → State}
    (inside : ∀ h, idOf 256 slot = some ⟨slot, h⟩ → answered s (take s) = left h)
    (outside : idOf 256 slot = none → take s = .refused .range) :
    command .station take s = .next (if h : slot < 256 then left h else refusedAs s .range) := by
  refine command_station_eq heard ?_
  split_ifs with h
  · exact inside h (idOf_of_lt h)
  · rw [outside (idOf_none (Nat.le_of_not_lt h))]
    rfl

theorem pinnable_iff (e : Entry) : pinnable e = true ↔ ¬(e.state = .free ∨ e.state = .retiring) := by
  cases h : e.state <;> simp [pinnable, h]

/-- RETIRE frees at once an unreachable entry that is not ACTIVE, and any on a line that is not usable (R21). -/
theorem freedAtOnce_iff {s : State} {e : Entry} (held : ¬(e.state = .free ∨ e.state = .retiring)) :
    freedAtOnce s e = true ↔ e.unreachable = true ∧ e.state ≠ .active ∨ lineUsable s e.line = false := by
  cases h : e.state <;> simp_all [freedAtOnce]

theorem failed_iff (h : Health) : h.failed = true ↔ h = .lampFail ∨ h = .gearFail := by
  cases h <;> simp [Health.failed]

theorem takePin_out_of_range {s : State} {slot code : Nat} (outside : ¬(slot < 256 ∧ code ≤ 1023)) :
    takePin slot code s = .refused .range := by
  unfold takePin
  split
  next => rfl
  next k found => exact if_pos (Nat.lt_of_not_le fun inside => outside ⟨idOf_lt found, inside⟩)

/-- What PIN leaves (R23). -/
def pinned (s : State) (k : Fin 256) (code : Nat) : State :=
  { s with roster :=
    { s.roster with
      slots := s.roster.slots.set k
        { entryAt s k with
          pin := some code
          setLevel := if (entryAt s k).health = .lampFail ∨ (entryAt s k).health = .gearFail then (entryAt s k).setLevel else code }
      marks := s.roster.marks ||| blockBit k
      window := none } }

theorem pinAt_eq (s : State) (k : Fin 256) (code : Nat) :
    pinAt k code (entryAt s k) (closeWindow s) =
      if (entryAt s k).state = .active ∧ ¬((entryAt s k).health = .lampFail ∨ (entryAt s k).health = .gearFail) ∧
          lineUsable s (entryAt s k).line = true then
        consider (entryAt s k).line
          { pinned s k code with lines := s.lines.modify (entryAt s k).line fun u =>
            { u with queue := enqueue ⟨.level code, k, (entryAt s k).address⟩ u.queue } }
      else pinned s k code := by
  simp only [pinAt, failed_iff, Bool.and_eq_true, Bool.not_eq_true', ← Bool.not_eq_true, decide_eq_true_eq]
  refine ite_congr (by rw [and_comm (a := ¬_), and_assoc]; rfl) (fun handed => ?_) fun _ => rfl
  exact congrArg (consider (entryAt s k).line) (if_pos handed.2.2)

/-- A line's queue replaced. -/
def withQueue (s : State) (l : Fin 4) (queue : List Request) : State :=
  { s with lines := s.lines.set l { s.lines.get l with queue := queue } }

end Sys2Proof.Machine

open Sys2Proof Sys2Proof.Machine

/-- Settles O20. -/
theorem suspendAndResume : Obligations.SuspendAndResume := by
  refine ⟨fun s slot heard => slot_command heard (fun h found => ?_) fun none => by rw [takeSuspend, none],
    fun s slot heard => slot_command heard (fun h found => ?_) fun none => by rw [takeResume, none]⟩
  · simp only [takeSuspend, found, answered_ite]
    rfl
  · simp only [takeResume, found, answered_ite]
    rfl

/-- Settles O21. -/
theorem retireResult : Obligations.RetireResult := by
  refine fun s slot heard => slot_command heard (fun h found => ?_) fun none => by rw [takeRetire, none]
  simp only [takeRetire, found, answered_ite]
  refine ite_congr rfl (fun _ => rfl) fun held => ite_congr rfl (fun _ => rfl) fun _ => ?_
  refine ite_congr (eq_iff_iff.mpr (freedAtOnce_iff held)) (fun _ => rfl) fun stays => ?_
  have usable : lineUsable s (entryAt s ⟨slot, h⟩).line = true := Bool.not_eq_false _ ▸ (not_or.mp stays).2
  exact congrArg (fun t => takenAs s (consider (entryAt s ⟨slot, h⟩).line t) [4#8]) (if_pos usable)

/-- Settles O22. -/
theorem pinUnpinLocate : Obligations.PinUnpinLocate := by
  refine ⟨fun s slot code heard => ?_, fun s slot heard => slot_command heard (fun h found => ?_) fun none => by rw [takeUnpin, none],
    fun s slot heard => slot_command heard (fun h found => ?_) fun none => by rw [takeLocate, none]⟩
  · refine command_station_eq heard ?_
    split_ifs with h
    · simp only [takePin, idOf_of_lt h.1, if_neg (Nat.not_lt.mpr h.2), answered_ite, pinnable_iff, ite_not]
      refine ite_congr rfl (fun _ => rfl) fun _ => ?_
      rw [answered_done, pinAt_eq]
      exact apply_ite (takenAs s · []) ..
    · rw [takePin_out_of_range h]
      rfl
  · simp only [takeUnpin, found, answered_ite, pinnable_iff, ite_not]
    rfl
  · simp only [takeLocate, found, answered_ite]
    rw [← ite_not]
    refine ite_congr (by rw [not_and_or, Bool.not_eq_true]) (fun _ => rfl) fun located => ite_congr (by rw [queuedFor_iff]) (fun _ => rfl) fun unqueued => ?_
    have usable : lineUsable s (entryAt s ⟨slot, h⟩).line = true := Bool.not_eq_false _ ▸ (not_or.mp located).2
    refine congrArg (fun t => takenAs s (consider (entryAt s ⟨slot, h⟩).line t) []) ((if_pos usable).trans ?_)
    refine congrArg (withQueue (closeWindow s) (entryAt s ⟨slot, h⟩).line) (enqueue_of_unqueued fun r queued same => unqueued ⟨r, queued, same⟩)
end

/-! PROOFS. AMEND (O19): its message's fields read under the presence mask, then its checks and its effect on the fields present. -/
section
namespace Sys2Proof.Machine

open Sys2Proof

/-! ### The fields present (1.6) -/

/-- A field as AMEND takes it: its value where it is present. -/
def present? {α : Type} (present : BitVec 8) (position : Nat) (a : α) : Option α := if present.getLsbD position then some a else none

@[simp] theorem isSome_present? {α : Type} (present : BitVec 8) (position : Nat) (a : α) :
    (present? present position a).isSome = present.getLsbD position := by
  unfold present?
  cases present.getLsbD position <;> rfl

@[simp] theorem getD_present? {α : Type} (present : BitVec 8) (position : Nat) (a b : α) :
    (present? present position a).getD b = if present.getLsbD position then a else b := by
  unfold present?
  split_ifs <;> rfl

theorem presentField_eq {α : Type} {present : BitVec 8} {position : Nat} {value : Option α} {a : α}
    (read : present.getLsbD position = true → value = some a) :
    presentField present position value = some (present? present position a) := by
  unfold presentField present?
  split_ifs with held
  · rw [read held]
    rfl
  · rfl

theorem isSome_of_presentField {α : Type} {present : BitVec 8} {position : Nat} {value : Option α} {f : Option α}
    (read : presentField present position value = some f) (held : present.getLsbD position = true) : ∃ a, value = some a := by
  rw [presentField, if_pos held] at read
  obtain ⟨a, found, -⟩ := Option.map_eq_some_iff.mp read
  exact ⟨a, found⟩

theorem lt_of_presentField {k n : Nat} {present : BitVec 8} {position : Nat} {f : Option (Fin k)}
    (read : presentField present position (idOf k n) = some f) (held : present.getLsbD position = true) : n < k :=
  let ⟨_, found⟩ := isSome_of_presentField read held
  idOf_lt found

/-- A field whose number is in range where it is present has a typed value. -/
theorem exists_typed {k n : Nat} [NeZero k] {b : Bool} (inside : ¬(b = true ∧ k ≤ n)) : ∃ i : Fin k, b = true → n = i.val := by
  by_cases h : n < k
  · exact ⟨⟨n, h⟩, fun _ => rfl⟩
  · exact ⟨0, fun held => absurd ⟨held, Nat.le_of_not_lt h⟩ inside⟩

section Fields

variable {s : State} {k : Fin 256} {present : BitVec 8} {slot portal stage cls q age line address : Nat} {p : Fin 4} {st : Fin 8} {c l : Fin 4}
  {a : Fin 64}

/-- AMEND with every present field in range comes to its checks on the entry (R19). -/
theorem takeAmend_eq_checked (wellFormed : present.getLsbD 7 = false) (portals : present.getLsbD 0 = true → portal = p.val)
    (stages : present.getLsbD 1 = true → stage = st.val) (classes : present.getLsbD 2 = true → cls = c.val)
    (contribution : present.getLsbD 3 = true → 1 ≤ q ∧ q ≤ 9999) (lines : present.getLsbD 5 = true → line = l.val)
    (addresses : present.getLsbD 6 = true → address = a.val) :
    takeAmend k.val present portal stage cls q age line address s =
      takeAmendChecked k (present? present 0 p) (present? present 1 st) (present? present 2 c) (present? present 3 q)
        (present? present 4 age) (present? present 5 l) (present? present 6 a) s := by
  rw [takeAmend, if_neg (Bool.eq_false_iff.mp wellFormed), idOf_val,
    presentField_eq fun held => by rw [portals held, idOf_val], presentField_eq fun held => by rw [stages held, idOf_val],
    presentField_eq fun held => by rw [classes held, idOf_val],
    presentField_eq fun held => if_pos ((qInRange_iff q).mpr (contribution held)), presentField_eq fun _ => rfl,
    presentField_eq fun held => by rw [lines held, idOf_val], presentField_eq fun held => by rw [addresses held, idOf_val]]

/-- A present field out of its range, or a slot that is none (R19). -/
theorem takeAmend_out_of_range (wellFormed : present.getLsbD 7 = false)
    (outside : 256 ≤ slot ∨ present.getLsbD 0 ∧ 4 ≤ portal ∨ present.getLsbD 1 ∧ 8 ≤ stage ∨ present.getLsbD 2 ∧ 4 ≤ cls ∨
      present.getLsbD 3 ∧ (q < 1 ∨ 9999 < q) ∨ present.getLsbD 5 ∧ 4 ≤ line ∨ present.getLsbD 6 ∧ 64 ≤ address) :
    takeAmend slot present portal stage cls q age line address s = .refused .range := by
  rw [takeAmend, if_neg (Bool.eq_false_iff.mp wellFormed)]
  split
  next k' p' st' c' q' age' l' a' hSlot hPortal hStage hCls hq _ hLine hAddress =>
    exfalso
    rcases outside with h | ⟨b, h⟩ | ⟨b, h⟩ | ⟨b, h⟩ | ⟨b, h⟩ | ⟨b, h⟩ | ⟨b, h⟩
    · exact Nat.not_lt.mpr h (idOf_lt hSlot)
    · exact Nat.not_lt.mpr h (lt_of_presentField hPortal b)
    · exact Nat.not_lt.mpr h (lt_of_presentField hStage b)
    · exact Nat.not_lt.mpr h (lt_of_presentField hCls b)
    · obtain ⟨n, found⟩ := isSome_of_presentField hq b
      split_ifs at found with inside
      obtain ⟨low, high⟩ := (qInRange_iff q).mp inside
      omega
    · exact Nat.not_lt.mpr h (lt_of_presentField hLine b)
    · exact Nat.not_lt.mpr h (lt_of_presentField hAddress b)
  next => rfl

/-- What AMEND writes besides the fields present (R20). -/
theorem amended_present (e : Entry) :
    amended (present? present 0 p) (present? present 1 st) (present? present 2 c) (present? present 3 q) (present? present 4 age)
      (present? present 5 l) (present? present 6 a) e =
    { e with
      portal := if present.getLsbD 0 then p else e.portal
      stage := if present.getLsbD 1 then st else e.stage
      cls := if present.getLsbD 2 then c else e.cls
      q := if present.getLsbD 3 then q else e.q
      age := if present.getLsbD 4 then age else e.age
      sub := if present.getLsbD 4 then 0 else e.sub
      line := if present.getLsbD 5 then l else e.line
      address := if present.getLsbD 6 then a else e.address } := by
  simp only [amended, getD_present?, isSome_present?]

/-! ### The checks on the entry (R19) -/

theorem takeAmendChecked_state {portal : Option (Fin 4)} {stage : Option (Fin 8)} {cls : Option (Fin 4)} {q age : Option Nat}
    {line : Option (Fin 4)} {address : Option (Fin 64)}
    (h : (entryAt s k).state = .free ∨ (entryAt s k).state = .retiring ∨
      (line.isSome || address.isSome) = true ∧ (entryAt s k).state = .active) :
    takeAmendChecked k portal stage cls q age line address s = .refused .state := if_pos h

/-- The entries that AMEND changes: PROVISIONAL and SUSPENDED ones, and ACTIVE ones that stay on their channel. -/
theorem amendable_iff {moves : Bool} (e : Entry) :
    (e.state = .provisional ∨ e.state = .suspended ∨ e.state = .active ∧ moves = false) ↔
      ¬(e.state = .free ∨ e.state = .retiring ∨ moves = true ∧ e.state = .active) := by
  cases h : e.state <;> simp

theorem val_getD_present? {n m : Nat} (b : Fin n) (named : present.getLsbD m = true → line = b.val) (i : Fin n) :
    ((present? present m b).getD i).val = if present.getLsbD m then line else i.val := by
  rw [getD_present?]
  split_ifs with held
  · exact (named held).symm
  · rfl

end Fields

/-- The roster a taken AMEND leaves, with the entry it writes. -/
theorem amendAt_eq {s : State} {k : Fin 256} {new : Entry} {marks : Bool} :
    amendAt k new marks (closeWindow s) =
      let roster (left : Entry) : Roster :=
        { s.roster with
          slots := s.roster.slots.set k left
          marks := if marks then s.roster.marks ||| blockBit k else s.roster.marks
          window := none }
      if new.line = (entryAt s k).line ∧ new.address = (entryAt s k).address then { s with roster := roster new }
      else consider new.line
        { s with
          roster := roster (movedEntry new)
          lines := s.lines.modify (entryAt s k).line fun u =>
            { u with queue := u.queue.filter fun r => decide (r.address ≠ (entryAt s k).address) } } := by
  unfold amendAt
  refine ite_congr (by rw [eq_comm (a := new.line), eq_comm (a := new.address)]; rfl) (fun _ => ?_) fun _ => ?_
  · cases marks <;> rfl
  · cases marks <;> rfl

end Sys2Proof.Machine

open Sys2Proof Sys2Proof.Machine

/-- Settles O19: the checks in their order over the fields present, then the entry with those fields written. -/
theorem amendResult : Obligations.AmendResult := by
  refine ⟨?_, ?_⟩
  · intro s k present portal stage cls q age line address p st c l a heard free wellFormed portals stages classes contribution lines addresses e
      moves new amendable clear marked roster
    refine command_station_eq heard ?_
    rw [takeAmend_eq_checked wellFormed portals stages classes contribution lines addresses, takeAmendChecked]
    simp only [isSome_present?, getD_present?, amended_present]
    rw [if_neg ((amendable_iff _).mp amendable), if_neg ?_, if_neg (Bool.eq_false_iff.mp free), answered_done, amendAt_eq]
    · rfl
    · rw [Bool.and_eq_true, conflicts_iff]
      rintro ⟨moving, j, other, held, sameLine, sameAddress⟩
      rcases clear moving j (fun same => other (same ▸ rfl)) with h | h | h
      · exact held h
      · exact h sameLine
      · exact h sameAddress
  · intro s slot present portal stage cls q age line address heard moves outOfRange
    refine ⟨fun h => command_station_eq heard ?_, fun wellFormed outside => command_station_eq heard ?_, ?_⟩
    · rw [takeAmend, if_pos h]
      rfl
    · rw [takeAmend_out_of_range wellFormed outside]
      rfl
    · rintro k rfl wellFormed inside e l a
      simp only [outOfRange, not_or] at inside
      obtain ⟨-, portalInside, stageInside, clsInside, qInside, lineInside, addressInside⟩ := inside
      obtain ⟨p, portals⟩ := exists_typed portalInside
      obtain ⟨st, stages⟩ := exists_typed stageInside
      obtain ⟨c, classes⟩ := exists_typed clsInside
      obtain ⟨newLine, lines⟩ := exists_typed lineInside
      obtain ⟨newAddress, addresses⟩ := exists_typed addressInside
      have contribution : present.getLsbD 3 = true → 1 ≤ q ∧ q ≤ 9999 := fun held => by
        have := not_and.mp qInside held
        omega
      have checked := takeAmend_eq_checked (s := s) (k := k) (age := age) wellFormed portals stages classes contribution lines addresses
      have conflicting : (moves && conflicts s (some k) ((present? present 5 newLine).getD e.line)
          ((present? present 6 newAddress).getD e.address)) = true ↔
          moves = true ∧ ∃ j, j ≠ k ∧ (entryAt s j).state ≠ .free ∧ (entryAt s j).line.val = l ∧ (entryAt s j).address.val = a := by
        rw [Bool.and_eq_true, conflicts_iff]
        simp only [Fin.ext_iff, val_getD_present? _ lines, val_getD_present? _ addresses, ne_eq, Option.some.injEq, eq_comm (a := k.val)]
        rfl
      refine ⟨fun h => command_station_eq heard ?_, fun amendable => ⟨fun h => command_station_eq heard ?_,
        fun writing h => command_station_eq heard ?_⟩⟩
      · rw [checked, takeAmendChecked_state (by simpa only [isSome_present?] using h)]
        rfl
      · rw [checked, takeAmendChecked]
        simp only [isSome_present?]
        rw [if_neg ((amendable_iff _).mp amendable), if_pos (conflicting.mpr h)]
        rfl
      · rw [checked, takeAmendChecked]
        simp only [isSome_present?]
        rw [if_neg ((amendable_iff _).mp amendable), if_neg (mt conflicting.mp h), if_pos writing]
        rfl
end

/-! PROOFS. The transfer window (O24, O25) and the age tick (O26). -/
section
namespace Sys2Proof.Machine

open Sys2Proof

/-! ### OPEN_WINDOW, READ_NEXT and CLEAR_MARKS (R27, R29, R31) -/

theorem takeOpenWindow_eq (first last direction : Nat) (s : State) :
    answered s (takeOpenWindow first last direction s) =
      if 255 < first ∨ 255 < last ∨ last < first ∨ 1 < direction then refusedAs s .range
      else takenAs s (putWindow (some ⟨first, last, if direction = 0 then .read else .write, first⟩) s) [] := by
  match direction with
  | 0 | 1 =>
    simp only [takeOpenWindow, directionOf, answered_ite]
    exact ite_congr (by simp) (fun _ => rfl) fun _ => rfl
  | n + 2 => exact (if_pos (.inr (.inr (.inr (by omega))))).symm

/-- The numbers from a first one on that do not pass a last one. -/
theorem range'_filter_le (first count last : Nat) :
    (List.range' first count).filter (· ≤ last) = List.range' first (min count (last + 1 - first)) := by
  induction count generalizing first with
  | zero => simp
  | succ count ih =>
    rw [List.range'_succ, List.filter_cons]
    split_ifs with inside
    · have inside : first ≤ last := of_decide_eq_true inside
      rw [ih, show min (count + 1) (last + 1 - first) = min count (last + 1 - (first + 1)) + 1 by omega, List.range'_succ]
    · have outside : ¬first ≤ last := fun le => inside (decide_eq_true le)
      rw [ih, show min (count + 1) (last + 1 - first) = 0 by omega, show min count (last + 1 - (first + 1)) = 0 by omega]
      rfl

/-- The slots from a number on. -/
def slotsFrom (first count : Nat) : List (Fin 256) := ((List.finRange 256).drop first).take count

theorem slotsFrom_val {first count : Nat} (inside : count ≤ 256 - first) :
    (slotsFrom first count).map (·.val) = List.range' first count := by
  rw [slotsFrom, List.map_take, List.map_drop, List.map_coe_finRange_eq_range]
  apply List.ext_getElem
  · simp only [List.length_take, List.length_drop, List.length_range, List.length_range']
    omega
  · intro i _ _
    simp

theorem recordsFrom_eq (s : State) (first count : Nat) :
    recordsFrom s first count = (slotsFrom first count).map fun k => entryRecordBytes k (entryAt s k) := by
  rw [recordsFrom, Tbl.indexed_eq, ← List.map_drop, ← List.map_take, List.map_map]
  rfl

theorem takeReadNext_of_window {s : State} {w : Window} {count : Nat} (low : 1 ≤ count) (high : count ≤ 16) (opened : s.roster.window = some w)
    (direction : w.direction = .read) : takeReadNext count s =
      let n := min count (w.last + 1 - w.cursor)
      .taken (withWindow { w with cursor := w.cursor + n } s) (to1 n ++ to2 (w.cursor + n) ++ (recordsFrom s w.cursor n).flatten) .nothing := by
  rw [takeReadNext, if_neg (by omega), opened]
  exact if_pos direction

end Sys2Proof.Machine

open Sys2Proof Sys2Proof.Machine

/-- Settles O24. -/
theorem windowReadAndMarks : Obligations.WindowReadAndMarks := by
  intro s heard
  refine ⟨fun first last direction => command_station_eq heard (takeOpenWindow_eq ..), fun mask => command_station heard (takeClearMarks mask),
    fun count => ⟨fun outside => command_station_eq heard ?_, fun low high unread => command_station_eq heard ?_,
      fun w low high opened direction bounded => ?_⟩⟩
  · rw [takeReadNext, if_pos outside]
    rfl
  · rw [takeReadNext, if_neg (by omega)]
    split
    next w opened =>
      rw [if_neg (by rw [unread w opened]; exact nofun)]
      rfl
    next => rfl
  · have read : (slotsFrom w.cursor (min count (w.last + 1 - w.cursor))).map (·.val) =
        List.range' w.cursor (min count (w.last + 1 - w.cursor)) := slotsFrom_val (by omega)
    have length : (slotsFrom w.cursor (min count (w.last + 1 - w.cursor))).length = min count (w.last + 1 - w.cursor) := by
      simpa using congrArg List.length read
    refine ⟨slotsFrom w.cursor (min count (w.last + 1 - w.cursor)), by rw [read, range'_filter_le], command_station_eq heard ?_⟩
    rw [takeReadNext_of_window low high opened direction, length, ← recordsFrom_eq]
    rfl

namespace Sys2Proof.Machine

/-! ### WRITE_NEXT (R28) -/

theorem recordRefusal_eq (k : Fin 256) (r : EntryRecord) (s : State) :
    recordRefusal k r s =
      if r.q < 1 ∨ 9999 < r.q then some .range
      else if (entryAt s k).state ≠ .free then some .state
      else if ∃ j, j ≠ k ∧ (entryAt s j).state ≠ .free ∧ (entryAt s j).line = r.line ∧ (entryAt s j).address = r.address then some .conflict
      else none := by
  unfold recordRefusal
  refine ite_congr ?_ (fun _ => rfl) fun _ => ite_congr rfl (fun _ => rfl) fun _ => ite_congr ?_ (fun _ => rfl) fun _ => rfl
  · rw [← Bool.not_eq_true, qInRange_iff, eq_iff_iff]
    omega
  · rw [conflicts_iff]
    simp only [ne_eq, Option.some.injEq, eq_comm]

section Records

variable {r : EntryRecord} {t : Transfer}

theorem transferRecord_stopped (stopped : t.outcome ≠ .done) : transferRecord r t = t := if_pos stopped

theorem transferRecord_past (going : t.outcome = .done) (past : t.window.last < t.window.cursor) :
    transferRecord r t = { t with ignored := t.ignored + 1 } :=
  (if_neg (not_not.mpr going)).trans (if_pos past)

theorem transferRecord_empty (going : t.outcome = .done) (inside : t.window.cursor ≤ t.window.last) (empty : r.state = 0) :
    transferRecord r t = { t with window := { t.window with cursor := t.window.cursor + 1 }, skipped := t.skipped + 1 } :=
  (if_neg (not_not.mpr going)).trans ((if_neg (Nat.not_lt.mpr inside)).trans (if_pos empty))

/-- A record at a slot of the window comes to ENTER's checks. -/
theorem transferRecord_stops {k : Fin 256} {why : Status} (going : t.outcome = .done) (inside : t.window.cursor ≤ t.window.last)
    (full : r.state ≠ 0) (slot : idOf 256 t.window.cursor = some k) (refusal : recordRefusal k r t.state = some why) :
    transferRecord r t = { t with outcome := why } := by
  simp only [transferRecord, if_neg (not_not.mpr going), if_neg (Nat.not_lt.mpr inside), if_neg full, slot, refusal]

theorem transferRecord_enters {k : Fin 256} (going : t.outcome = .done) (inside : t.window.cursor ≤ t.window.last) (full : r.state ≠ 0)
    (slot : idOf 256 t.window.cursor = some k) (clear : recordRefusal k r t.state = none) :
    transferRecord r t =
      { t with
        state := enterAt k (enteredEntry r.line r.address r.portal r.stage r.cls r.q r.age (r.pin.map (·.val))) t.state
        window := { t.window with cursor := t.window.cursor + 1 }
        applied := t.applied + 1 } := by
  simp only [transferRecord, if_neg (not_not.mpr going), if_neg (Nat.not_lt.mpr inside), if_neg full, slot, clear]

end Records

theorem takeWriteNext_of_window {s : State} {w : Window} {records : List EntryRecord} (some_ : records ≠ []) (few : records.length ≤ 16)
    (free : storeWriting s = false) (opened : s.roster.window = some w) (direction : w.direction = .write) :
    takeWriteNext records s =
      let t := transferAll records w s
      .taken (considerAll (withWindow t.window t.state))
        (to1 t.applied ++ to1 t.skipped ++ to1 t.ignored ++ [statusCode t.outcome] ++ to2 t.window.cursor) .nothing := by
  have filled := List.length_pos_iff.mpr some_
  rw [takeWriteNext, if_neg (by omega), if_neg (Bool.eq_false_iff.mp free), opened]
  exact if_pos direction

end Sys2Proof.Machine

/-- Settles O25. -/
theorem writeNextResult : Obligations.WriteNextResult := by
  refine ⟨fun r t => ⟨transferRecord_stopped, transferRecord_past, transferRecord_empty, fun k going inside full slot => ?_⟩,
    fun s records heard => ⟨fun empty => command_station_eq heard ?_, fun filled few writing => command_station_eq heard ?_,
      fun filled few free unwritten => command_station_eq heard ?_, fun w filled few free opened direction => command_station_eq heard ?_⟩⟩
  · replace slot : idOf 256 t.window.cursor = some k := by rw [← slot, idOf_val]
    simp only [← recordRefusal_eq]
    cases refusal : recordRefusal k r t.state with
    | some why => exact transferRecord_stops going inside full slot refusal
    | none => exact transferRecord_enters going inside full slot refusal
  · rw [takeWriteNext, if_pos (by rcases empty with rfl | long; exacts [.inl Nat.one_pos, .inr long])]
    rfl
  · have := List.length_pos_iff.mpr filled
    rw [takeWriteNext, if_neg (by omega), if_pos writing]
    rfl
  · have := List.length_pos_iff.mpr filled
    rw [takeWriteNext, if_neg (by omega), if_neg (Bool.eq_false_iff.mp free)]
    split
    next w opened =>
      rw [if_neg (by rw [unwritten w opened]; exact nofun)]
      rfl
    next => rfl
  · rw [takeWriteNext_of_window filled few free opened direction]
    rfl

namespace Sys2Proof.Machine

/-! ### The age tick (R32) -/

theorem aged_eq (e : Entry) : aged e =
    if e.state ≠ .free ∧ (∃ code, e.confirmed = some code ∧ 0 < code) then
      if 65535 ≤ e.age then { e with sub := 0 }
      else if 99 ≤ e.sub then { e with sub := 0, age := e.age + 1 }
      else { e with sub := e.sub + 1 }
    else e := by
  unfold aged
  refine ite_congr ?_ (fun _ => ite_congr rfl (fun _ => rfl) fun _ => ite_congr ?_ (fun _ => rfl) fun _ => rfl) fun _ => rfl
  · cases e.confirmed <;> simp
  · rw [eq_iff_iff]
    omega

end Sys2Proof.Machine

/-- Settles O26. -/
theorem ageTickResult : Obligations.AgeTickResult := by
  refine fun s powered running => ⟨s.roster.slots.map aged, congrArg Host.Outcome.next ?_, fun k => ?_⟩
  · rw [whenPowered_of_powered powered]
    exact if_pos running
  · rw [Tbl.get_map]
    exact aged_eq _
end

/-! PROOFS. How a command that a message carries is answered: the store's BUSY (O11) and the transfer window that a taken command closes
(O10), with what each operation leaves of the roster beside its slots and marks. -/
section
namespace Sys2Proof.Machine

open Sys2Proof

/-! ### The roster beside its slots and marks -/

/-- The transfer window and the age tick. -/
def windowAndTick (s : State) : Option Window × Timer := (s.roster.window, s.roster.ageTick)

section Operations

variable (s : State) (l : Fin 4) (p : Fin 4) (k : Fin 256) (a : Fin 64)

theorem windowAndTick_of_roster {s t : State} (same : t.roster = s.roster) : windowAndTick t = windowAndTick s := by
  rw [windowAndTick, same, windowAndTick]

@[simp] theorem windowAndTick_putEntry (e : Entry) : windowAndTick (putEntry k e s) = windowAndTick s := rfl

@[simp] theorem windowAndTick_mark : windowAndTick (mark k s) = windowAndTick s := rfl

@[simp] theorem windowAndTick_markIf (b : Bool) : windowAndTick (markIf b k s) = windowAndTick s := by
  cases b <;> rfl

@[simp] theorem windowAndTick_freeSlot : windowAndTick (freeSlot k s) = windowAndTick s := rfl

@[simp] theorem windowAndTick_clearConfirmed : windowAndTick (clearConfirmed l s) = windowAndTick s := rfl

@[simp] theorem windowAndTick_modifyLine (f : LineUnit → LineUnit) : windowAndTick (modifyLine l f s) = windowAndTick s := rfl

@[simp] theorem windowAndTick_withdraw : windowAndTick (withdraw l a s) = windowAndTick s := rfl

@[simp] theorem windowAndTick_modifyPortal (f : PortalLive → PortalLive) : windowAndTick (modifyPortal p f s) = windowAndTick s := rfl

@[simp] theorem windowAndTick_modifyPortalConfig (f : PortalConfig → PortalConfig) :
    windowAndTick (modifyPortalConfig p f s) = windowAndTick s := rfl

@[simp] theorem windowAndTick_report (e : Event) : windowAndTick (report e s) = windowAndTick s := rfl

@[simp] theorem windowAndTick_reportIf (b : Bool) (e : Event) : windowAndTick (reportIf b e s) = windowAndTick s :=
  windowAndTick_of_roster (reportIf_roster ..)

@[simp] theorem windowAndTick_hand (r : Request) : windowAndTick (hand l r s) = windowAndTick s :=
  windowAndTick_of_roster (hand_roster ..)

@[simp] theorem windowAndTick_handLevel (code : Nat) : windowAndTick (handLevel l k a code s) = windowAndTick s :=
  windowAndTick_hand ..

@[simp] theorem windowAndTick_consider : windowAndTick (consider l s) = windowAndTick s :=
  windowAndTick_of_roster (consider_roster ..)

@[simp] theorem windowAndTick_considerAll : windowAndTick (considerAll s) = windowAndTick s :=
  windowAndTick_of_roster (considerAll_roster ..)

@[simp] theorem windowAndTick_capacityPass : windowAndTick (capacityPass p s) = windowAndTick s :=
  windowAndTick_of_roster (capacityPass_roster ..)

@[simp] theorem windowAndTick_outputPass : windowAndTick (outputPass p s) = windowAndTick s :=
  windowAndTick_of_roster (outputPass_roster ..)

@[simp] theorem windowAndTick_levelPass : windowAndTick (levelPass p s) = windowAndTick s :=
  (windowAndTick_of_roster (handRequests_roster p (writeLevels p s))).trans rfl

@[simp] theorem windowAndTick_recompute : windowAndTick (recompute p s) = windowAndTick s := by
  unfold recompute
  split_ifs <;> simp

@[simp] theorem windowAndTick_recomputeLimited : windowAndTick (recomputeLimited s) = windowAndTick s := by
  refine foldl_keeps windowAndTick _ (fun acc x => ?_) _ s
  split <;> simp

@[simp] theorem windowAndTick_settlePortal (before after : State) : windowAndTick (settlePortal before after p s) = windowAndTick s := by
  simp only [settlePortal]
  split_ifs <;> simp

@[simp] theorem windowAndTick_settleConditions (before after : State) :
    windowAndTick (settleConditions before after) = windowAndTick after := by
  simp [settleConditions]

@[simp] theorem windowAndTick_changeOverrides (f : Overrides → Overrides) : windowAndTick (changeOverrides f s) = windowAndTick s :=
  windowAndTick_settleConditions ..

@[simp] theorem windowAndTick_releaseEnds : windowAndTick (releaseEnds l k a s) = windowAndTick s := by
  simp only [releaseEnds]
  split_ifs <;> rfl

@[simp] theorem windowAndTick_discardReleases (queue : List Request) : windowAndTick (discardReleases l queue s) = windowAndTick s := by
  refine foldl_keeps windowAndTick _ (fun acc x => ?_) _ s
  split <;> simp

@[simp] theorem windowAndTick_discardInFlight (t : Transaction) : windowAndTick (discardInFlight l t s) = windowAndTick s := by
  unfold discardInFlight
  split <;> simp

@[simp] theorem windowAndTick_disableLine : windowAndTick (disableLine l s) = windowAndTick s := by
  simp only [disableLine, windowAndTick_clearConfirmed, windowAndTick_discardReleases]
  split
  · split_ifs <;> simp
  · simp

@[simp] theorem windowAndTick_switchLine (enables : BitVec 4) : windowAndTick (switchLine enables l s) = windowAndTick s := by
  simp only [switchLine]
  split_ifs
  · rfl
  · exact windowAndTick_consider ..
  · exact windowAndTick_disableLine ..

@[simp] theorem windowAndTick_changeMissLimit (limit : Nat) : windowAndTick (changeMissLimit limit s) = windowAndTick s := by
  unfold changeMissLimit
  split_ifs <;> rfl

@[simp] theorem windowAndTick_setLinesAt (enables : BitVec 4) (limit : Nat) : windowAndTick (setLinesAt enables limit s) = windowAndTick s := by
  simp [setLinesAt]

end Operations

/-! ### Commands refused while the store is WRITING (8.9) -/

/-- The verdict is a refusal. -/
def Verdict.IsRefused (v : Verdict) : Prop := ∃ why, v = .refused why

theorem Verdict.IsRefused.intro {why : Status} : (Verdict.refused why).IsRefused := ⟨why, rfl⟩

theorem Verdict.IsRefused.ite {c : Prop} [Decidable c] {v w : Verdict} (yes : v.IsRefused) (no : w.IsRefused) :
    (if c then v else w).IsRefused := by
  split_ifs
  · exact yes
  · exact no

section Busy

variable {s : State} (writing : storeWriting s = true)
include writing

theorem Verdict.IsRefused.busy {v : Verdict} : (if storeWriting s then .refused .busy else v).IsRefused := by
  rw [if_pos writing]
  exact .intro

theorem takeEnter_busy {slot line address portal stage cls q age pin : Nat} :
    (takeEnter slot line address portal stage cls q age pin s).IsRefused := by
  unfold takeEnter
  split
  · refine .ite (.ite .intro (.ite .intro ?_)) .intro
    split
    · exact .intro
    · exact .busy writing
  · exact .intro

theorem takeAmend_busy {slot : Nat} {present : BitVec 8} {portal stage cls q age line address : Nat} :
    (takeAmend slot present portal stage cls q age line address s).IsRefused := by
  refine .ite .intro ?_
  split
  · exact .ite .intro (.ite .intro (.busy writing))
  · exact .intro

theorem takeSuspend_busy {slot : Nat} : (takeSuspend slot s).IsRefused := by
  unfold takeSuspend
  split
  · exact .intro
  · exact .ite (.busy writing) .intro

theorem takeResume_busy {slot : Nat} : (takeResume slot s).IsRefused := by
  unfold takeResume
  split
  · exact .intro
  · exact .ite (.busy writing) .intro

theorem takeRetire_busy {slot : Nat} : (takeRetire slot s).IsRefused := by
  unfold takeRetire
  split
  · exact .intro
  · exact .ite .intro (.busy writing)

theorem takeSetChannel_busy {channel offset gain low high : Nat} : (takeSetChannel channel offset gain low high s).IsRefused := by
  unfold takeSetChannel
  split
  · exact .intro
  · exact .ite .intro (.busy writing)

theorem takeSetScan_busy {positions : List Nat} {interval : Nat} : (takeSetScan positions interval s).IsRefused := by
  unfold takeSetScan
  split
  · exact .intro
  split
  · exact .intro
  · exact .ite .intro (.busy writing)

theorem takeSetPortal_busy {portal : Nat} {c : PortalFields} : (takeSetPortal portal c s).IsRefused := by
  unfold takeSetPortal
  split
  · exact .ite (.busy writing) .intro
  · exact .intro

theorem takeSetRole_busy {portal role : Nat} : (takeSetRole portal role s).IsRefused := by
  unfold takeSetRole
  split
  · exact .busy writing
  · exact .intro

theorem takeSetStages_busy {portal count : Nat} {pairs : List (Nat × Nat)} : (takeSetStages portal count pairs s).IsRefused := by
  refine .ite .intro ?_
  split
  · exact .intro
  · exact .ite .intro (.busy writing)

theorem takeSetCompute_busy {mode thermal ceiling : Nat} : (takeSetCompute mode thermal ceiling s).IsRefused := by
  unfold takeSetCompute
  split
  · exact .intro
  · exact .ite .intro (.busy writing)

theorem takeSetCurve_busy {cls : Nat} {points : List Nat} : (takeSetCurve cls points s).IsRefused := by
  unfold takeSetCurve
  split
  · exact .intro
  split
  · exact .intro
  · exact .ite .intro (.busy writing)

theorem takeSetInput_busy {input function : Nat} {mask : BitVec 8} {sense polarity : Nat} :
    (takeSetInput input function mask sense polarity s).IsRefused := by
  unfold takeSetInput
  split
  · exact .intro
  split
  · exact .busy writing
  · exact .intro

theorem takeSetLines_busy {enables : BitVec 8} {missLimit : Nat} : (takeSetLines enables missLimit s).IsRefused := by
  unfold takeSetLines
  split
  · exact .intro
  · exact .ite .intro (.busy writing)

theorem takeSetLink_busy {station baud : Nat} : (takeSetLink station baud s).IsRefused := by
  unfold takeSetLink
  split
  · exact .intro
  · exact .ite .intro (.busy writing)

end Busy

end Sys2Proof.Machine

open Sys2Proof Sys2Proof.Machine

/-- Settles O11: each listed command's checks end in BUSY. -/
theorem busyCommandsNotTaken : Obligations.BusyCommandsNotTaken := by
  intro c s writing listed
  cases c with
  | enter => exact takeEnter_busy writing
  | amend => exact takeAmend_busy writing
  | suspend => exact takeSuspend_busy writing
  | resume => exact takeResume_busy writing
  | retire => exact takeRetire_busy writing
  | writeNext => exact Verdict.IsRefused.ite .intro (.busy writing)
  | setChannel => exact takeSetChannel_busy writing
  | setScan => exact takeSetScan_busy writing
  | setPortal => exact takeSetPortal_busy writing
  | setRole => exact takeSetRole_busy writing
  | setStages => exact takeSetStages_busy writing
  | setCompute => exact takeSetCompute_busy writing
  | setMaintenance => exact Verdict.IsRefused.ite .intro (.ite .intro (.busy writing))
  | setCurve => exact takeSetCurve_busy writing
  | setInput => exact takeSetInput_busy writing
  | setLines => exact takeSetLines_busy writing
  | setLink => exact takeSetLink_busy writing
  | setMask | store | restart => exact Verdict.IsRefused.busy writing
  | _ => exact listed.elim
end

/-! PROOFS. A command that is taken closes an open transfer window, but for the three that match it (O10). -/
section
namespace Sys2Proof.Machine

open Sys2Proof

/-- A taken command leaves no transfer window open. -/
def Verdict.Closes : Verdict → Prop
  | .refused _ => True
  | .taken after _ _ => after.roster.window = none

theorem Verdict.Closes.refused {why : Status} : (Verdict.refused why).Closes := trivial

theorem Verdict.Closes.ite {c : Prop} [Decidable c] {v w : Verdict} (yes : v.Closes) (no : w.Closes) : (if c then v else w).Closes := by
  split_ifs
  · exact yes
  · exact no

/-- An effect that leaves the window closed. -/
theorem Verdict.Closes.done {s : State} {effect : State → State} {data : State → List Byte}
    (kept : windowAndTick (effect (closeWindow s)) = windowAndTick (closeWindow s)) : (done effect data s).Closes :=
  congrArg Prod.fst kept

section Owners

variable {s : State}

/-! ### The roster's commands -/

theorem windowAndTick_amendAt (k : Fin 256) (new : Entry) (marks : Bool) (s : State) :
    windowAndTick (amendAt k new marks s) = windowAndTick s := by
  simp only [amendAt]
  split_ifs <;> simp

theorem windowAndTick_pinAt (k : Fin 256) (code : Nat) (e : Entry) (s : State) :
    windowAndTick (pinAt k code e s) = windowAndTick s := by
  simp only [pinAt]
  split_ifs <;> simp

theorem takeEnter_closes {slot line address portal stage cls q age pin : Nat} :
    (takeEnter slot line address portal stage cls q age pin s).Closes := by
  unfold takeEnter
  split
  · refine .ite (.ite .refused (.ite .refused ?_)) .refused
    split
    · exact .refused
    · exact .ite .refused (.done (by simp [enterAt]))
  · exact .refused

theorem takeAmend_closes {slot : Nat} {present : BitVec 8} {portal stage cls q age line address : Nat} :
    (takeAmend slot present portal stage cls q age line address s).Closes := by
  refine .ite .refused ?_
  split
  · exact .ite .refused (.ite .refused (.ite .refused (.done (windowAndTick_amendAt ..))))
  · exact .refused

theorem takeSuspend_closes {slot : Nat} : (takeSuspend slot s).Closes := by
  unfold takeSuspend
  split
  · exact .refused
  · exact .ite (.ite .refused (.done rfl)) .refused

theorem takeResume_closes {slot : Nat} : (takeResume slot s).Closes := by
  unfold takeResume
  split
  · exact .refused
  · exact .ite (.ite .refused (.done (by simp))) .refused

theorem takeRetire_closes {slot : Nat} : (takeRetire slot s).Closes := by
  unfold takeRetire
  split
  · exact .refused
  · exact .ite .refused (.ite .refused (.ite (.done rfl) (.done (by simp [retireAt]))))

theorem takePin_closes {slot code : Nat} : (takePin slot code s).Closes := by
  unfold takePin
  split
  · exact .refused
  · exact .ite .refused (.ite (.done (windowAndTick_pinAt ..)) .refused)

theorem takeUnpin_closes {slot : Nat} : (takeUnpin slot s).Closes := by
  unfold takeUnpin
  split
  · exact .refused
  · exact .ite (.done rfl) .refused

theorem takeLocate_closes {slot : Nat} : (takeLocate slot s).Closes := by
  unfold takeLocate
  split
  · exact .refused
  · exact .ite (.ite .refused (.done (by simp))) .refused

theorem numbered_closes {k n : Nat} {read : Fin k → List Byte} {v : Verdict}
    (reads : v = (idOf k n).elim (.refused .range) fun i => .taken (closeWindow s) (read i) .nothing) : v.Closes := by
  rw [reads]
  cases idOf k n
  · exact .refused
  · rfl

theorem takeFind_closes {line address : Nat} : (takeFind line address s).Closes := by
  unfold takeFind
  split
  · exact .done rfl
  · exact .refused

/-! ### The settings' commands -/

theorem takeSetChannel_closes {channel offset gain low high : Nat} : (takeSetChannel channel offset gain low high s).Closes := by
  unfold takeSetChannel
  split
  · exact .refused
  · exact .ite .refused (.ite .refused (.done rfl))

theorem takeSetScan_closes {positions : List Nat} {interval : Nat} : (takeSetScan positions interval s).Closes := by
  unfold takeSetScan
  split
  · exact .refused
  split
  · exact .refused
  · exact .ite .refused (.ite .refused (.done rfl))

theorem windowAndTick_setPortalAt (p : Fin 4) (c : PortalFields) (primary secondary : Option (Fin 8)) (s : State) :
    windowAndTick (setPortalAt p c primary secondary s) = windowAndTick s := by
  simp only [setPortalAt]
  split_ifs <;> simp

theorem windowAndTick_setRoleAt (p : Fin 4) (role : Role) (s : State) : windowAndTick (setRoleAt p role s) = windowAndTick s := by
  simp only [setRoleAt]
  split_ifs <;> cases role <;> simp

theorem takeSetPortal_closes {portal : Nat} {c : PortalFields} : (takeSetPortal portal c s).Closes := by
  unfold takeSetPortal
  split
  · exact .ite (.ite .refused (.done (windowAndTick_setPortalAt ..))) .refused
  · exact .refused

theorem takeSetRole_closes {portal role : Nat} : (takeSetRole portal role s).Closes := by
  unfold takeSetRole
  split
  · exact .ite .refused (.done (windowAndTick_setRoleAt ..))
  · exact .refused

theorem takeSetManual_closes {portal luminance : Nat} : (takeSetManual portal luminance s).Closes := by
  unfold takeSetManual
  split
  · exact .refused
  · exact .ite .refused (.done rfl)

theorem takeSetAuto_closes {portal : Nat} : (takeSetAuto portal s).Closes := by
  unfold takeSetAuto
  split
  · exact .refused
  · exact .ite (.done rfl) .refused

theorem takeSetStages_closes {portal count : Nat} {pairs : List (Nat × Nat)} : (takeSetStages portal count pairs s).Closes := by
  refine .ite .refused ?_
  split
  · exact .refused
  · exact .ite .refused (.ite .refused (.done rfl))

theorem takeSetCompute_closes {mode thermal ceiling : Nat} : (takeSetCompute mode thermal ceiling s).Closes := by
  unfold takeSetCompute
  split
  · exact .refused
  · exact .ite .refused (.ite .refused (.done ((windowAndTick_considerAll ..).trans (windowAndTick_recomputeLimited ..))))

theorem takeSetMaintenance_closes {count : Nat} {rows : List (Nat × Nat)} : (takeSetMaintenance count rows s).Closes :=
  .ite .refused (.ite .refused (.ite .refused (.done rfl)))

theorem takeSetCurve_closes {cls : Nat} {points : List Nat} : (takeSetCurve cls points s).Closes := by
  unfold takeSetCurve
  split
  · exact .refused
  split
  · exact .refused
  · exact .ite .refused (.ite .refused (.done rfl))

theorem takeMask_closes {effect : BitVec 4 → State → State} {mask : BitVec 8} (kept : ∀ m s, windowAndTick (effect m s) = windowAndTick s) :
    (takeMask effect mask s).Closes := by
  unfold takeMask
  split
  · exact .refused
  · exact .done (kept ..)

theorem takeSetInput_closes {input function : Nat} {mask : BitVec 8} {sense polarity : Nat} :
    (takeSetInput input function mask sense polarity s).Closes := by
  unfold takeSetInput
  split
  · exact .refused
  split
  · exact .ite .refused (.done (windowAndTick_settleConditions ..))
  · exact .refused

theorem takeSetLines_closes {enables : BitVec 8} {missLimit : Nat} : (takeSetLines enables missLimit s).Closes := by
  unfold takeSetLines
  split
  · exact .refused
  · exact .ite .refused (.ite .refused (.done (windowAndTick_setLinesAt ..)))

theorem takeSetLink_closes {station baud : Nat} : (takeSetLink station baud s).Closes := by
  unfold takeSetLink
  split
  · exact .refused
  · exact .ite .refused (.ite .refused rfl)

/-- A command that a message carries closes the window, but for OPEN_WINDOW, WRITE_NEXT and READ_NEXT. -/
theorem owner_closes (c : Instr) : (owner c s).Closes ∨
    (∃ first last direction, c = .openWindow first last direction) ∨ (∃ records, c = .writeNext records) ∨ ∃ count, c = .readNext count := by
  cases c with
  | openWindow first last direction => exact .inr (.inl ⟨first, last, direction, rfl⟩)
  | writeNext records => exact .inr (.inr (.inl ⟨records, rfl⟩))
  | readNext count => exact .inr (.inr (.inr ⟨count, rfl⟩))
  | enter => exact .inl takeEnter_closes
  | amend => exact .inl takeAmend_closes
  | suspend => exact .inl takeSuspend_closes
  | resume => exact .inl takeResume_closes
  | retire => exact .inl takeRetire_closes
  | pin => exact .inl takePin_closes
  | unpin => exact .inl takeUnpin_closes
  | locate => exact .inl takeLocate_closes
  | lookup slot => exact .inl (numbered_closes (takeLookup_eq slot s))
  | find => exact .inl takeFind_closes
  | readMarks | readInputs | readStatus | clearMarks | clearEvents => exact .inl rfl
  | setChannel => exact .inl takeSetChannel_closes
  | setScan => exact .inl takeSetScan_closes
  | readChannel channel => exact .inl (numbered_closes (takeReadChannel_eq channel s))
  | setPortal => exact .inl takeSetPortal_closes
  | setRole => exact .inl takeSetRole_closes
  | setManual => exact .inl takeSetManual_closes
  | setAuto => exact .inl takeSetAuto_closes
  | readPortal portal => exact .inl (numbered_closes (takeReadPortal_eq portal s))
  | setStages => exact .inl takeSetStages_closes
  | setCompute => exact .inl takeSetCompute_closes
  | setMaintenance => exact .inl takeSetMaintenance_closes
  | setCurve => exact .inl takeSetCurve_closes
  | readTables cls => exact .inl (numbered_closes (takeReadTables_eq cls s))
  | force | unforce | limit | unlimit => exact .inl (takeMask_closes fun _ _ => windowAndTick_changeOverrides ..)
  | freeze | unfreeze => exact .inl (takeMask_closes fun _ _ => rfl)
  | setInput => exact .inl takeSetInput_closes
  | setLines => exact .inl takeSetLines_closes
  | readLine line => exact .inl (numbered_closes (takeReadLine_eq line s))
  | setLink => exact .inl takeSetLink_closes
  | setMask | store | restart => exact .inl (.ite .refused rfl)
  | _ => exact .inl .refused

end Owners

end Sys2Proof.Machine

open Sys2Proof Sys2Proof.Machine

/-- Settles O10. -/
theorem commandAnswered : Obligations.CommandAnswered := by
  intro c dest content s message heard
  refine ⟨fun why refused => ?_, fun after data held taken => ⟨?_, ?_⟩⟩
  · rw [exec_of_encodes message]
    exact command_refused heard refused
  · rw [exec_of_encodes message]
    exact command_taken heard taken
  · have closes := owner_closes (s := s) c
    rw [taken] at closes
    exact closes
end

/-! PROOFS. The rounded divisions (O6), the full reset (O4), the scanner (O28, O29) and the output tables' commands (O38). -/
section
namespace Sys2Proof.Machine

open Sys2Proof

/-! ### Rounded divisions (R1) -/

theorem divRound_away_bounds (x : Nat) {y : Nat} (positive : 0 < y) :
    divRound .away x y * y < x + y ∧ x ≤ divRound .away x y * y := by
  have split := Nat.div_add_mod' x y
  have small := Nat.mod_lt x positive
  simp only [divRound]
  split_ifs with whole
  · omega
  · rw [Nat.succ_mul]
    omega

/-- NEAREST lies within half a divisor of the value, and is even at a tie. -/
theorem divRound_nearest_bounds (x : Nat) {y : Nat} (positive : 0 < y) :
    2 * x ≤ 2 * (divRound .nearest x y * y) + y ∧ 2 * (divRound .nearest x y * y) ≤ 2 * x + y ∧
      (2 * (x % y) = y → divRound .nearest x y % 2 = 0) := by
  have split := Nat.div_add_mod' x y
  have small := Nat.mod_lt x positive
  have above : (x / y + 1) * y = x / y * y + y := Nat.succ_mul ..
  simp only [divRound]
  split_ifs with below beyond even
  · exact ⟨by omega, by omega, fun tie => by omega⟩
  · exact ⟨by omega, by omega, fun tie => by omega⟩
  · exact ⟨by omega, by omega, fun _ => even⟩
  · exact ⟨by omega, by omega, fun _ => by omega⟩

end Sys2Proof.Machine

open Sys2Proof Sys2Proof.Machine

/-- Settles O6. -/
theorem divisionRule : Obligations.DivisionRule := fun x _ positive =>
  ⟨rfl, divRound_away_bounds x positive, divRound_nearest_bounds x positive,
    fun mode => ⟨divRoundInt_natCast mode x _, divRoundInt_neg_natCast mode x positive⟩⟩

namespace Sys2Proof.Machine

/-! ### The full reset (R183) -/

theorem map_const_lines (lines : Tbl LineUnit 4) : (lines.map fun _ => LineUnit.initial) = Tbl.fill 4 LineUnit.initial :=
  Tbl.ext_get fun l => by rw [Tbl.get_map, Tbl.get_fill]

/-- What a reset leaves, over the settings, slots and flags it starts from. -/
theorem reinitialise_eq (settings : Settings) (slots : Tbl Entry 256) (flags : BitVec 48) (s : State) :
    reinitialise settings slots flags s = considerAll
      { powered := true
        settings := settings
        roster := ⟨slots, BitVec.allOnes 32, none, .running 360000⟩
        scanner := ⟨Tbl.fill 8 ⟨none, .none, 0#8⟩, none, .running settings.scanInterval⟩
        portals := settings.portals.map (portalAtReset settings.compute.mode)
        overrides := ⟨s.overrides.inputs.map fun i => ⟨i.physical, none, some ⟨i.physical, .running 40⟩⟩, 0#4, 0#4, 0#4⟩
        lines := Tbl.fill 4 LineUnit.initial
        link := asleep
        events := ⟨flags, faultOutputOf flags settings.mask⟩
        store := { s.store with state := .idle }
        pending := s.pending } := by
  rw [reinitialise, map_const_lines]
  rfl

end Sys2Proof.Machine

/-- Settles O4. -/
theorem fullResetResult : Obligations.FullResetResult := by
  refine ⟨fun s => congrArg Host.Outcome.next ?_, fun mode c => ⟨(portalAtReset mode c).stages, ?_, fun j => ?_⟩⟩
  · simp only [fullReset]
    split_ifs <;> exact reinitialise_eq ..
  · cases h : c.role <;> simp [portalAtReset, PortalLive.initial, h]
  · rw [portalAtReset, Tbl.get_tabulate]
    cases h : c.role <;> simp [Stage.initial, Stage.unused]

namespace Sys2Proof.Machine

/-! ### The scanner (R46, R47, R49, R50) -/

theorem scanNext_of_next {scan : Scan} {next : Fin 8} (following : next.val = scan.position.val + 1) :
    scanNext scan = (scan.list.get next).map fun ch => ⟨scan.list, next, ch⟩ := by
  have last := next.isLt
  rw [scanNext, dif_pos (by omega), scanAt]
  simp only [← following]

theorem scanNext_last {scan : Scan} (last : scan.position = 7) : scanNext scan = none := by
  rw [scanNext, dif_neg (by rw [last]; decide)]

theorem reportIf_flags (b : Bool) (e : Event) (s : State) :
    (reportIf b e s).events.flags = s.events.flags ||| if b = true then flagBit e else 0#48 := by
  cases b
  · simp [reportIf]
  · rfl

/-- A report changes the events alone. -/
theorem reportIf_eq (b : Bool) (e : Event) (s : State) : reportIf b e s = { s with events := (reportIf b e s).events } := by
  cases b <;> rfl

theorem exec_scanTimerExpiry {s : State} (powered : s.powered = true) (running : s.scanner.timer.isRunning = true) :
    exec .scanTimerExpiry s = .next (
      let ticking := withScanner (fun c => { c with timer := .running s.settings.scanInterval }) s
      if s.scanner.scan.isSome then report .scanSkip ticking
      else withScanner (fun c => { c with scan := scanAt s.settings.scanList 0 }) ticking) := by
  refine congrArg Host.Outcome.next ((whenPowered_of_powered powered _).trans ((if_pos running).trans ?_))
  cases s.scanner.scan <;> rfl

theorem exec_conversionComplete {s : State} {scan : Scan} {raw : Nat} (powered : s.powered = true) (scanning : s.scanner.scan = some scan) :
    exec (.conversionComplete raw) s = .next (complete scan raw s) := by
  refine congrArg Host.Outcome.next ((whenPowered_of_powered powered _).trans ?_)
  rw [scanning]

/-- A completed conversion changes the scanner and the events alone. -/
theorem complete_eq (scan : Scan) (raw : Nat) (s : State) :
    complete scan raw s =
      { s with
        scanner :=
          { s.scanner with
            readings := s.scanner.readings.set scan.channel (newReading s.settings.compute.mode (s.settings.channels.get scan.channel) raw
              (s.scanner.readings.get scan.channel))
            scan := scanNext scan }
        events := (complete scan raw s).events } := by
  simp only [complete]
  rw [reportIf_eq, reportIf_eq]
  rfl

theorem complete_flags (scan : Scan) (raw : Nat) (s : State) :
    let old := s.scanner.readings.get scan.channel
    let found := measured s.settings.compute.mode (s.settings.channels.get scan.channel) raw
    (complete scan raw s).events.flags = s.events.flags |||
      (if found.2 = .invalid ∧ old.status ≠ .invalid then flagBit (.chInvalid scan.channel) else 0#48) |||
      (if found.2 = .implausible ∧ old.status ≠ .implausible then flagBit (.chLimit scan.channel) else 0#48) := by
  simp only [complete, reportIf_flags, Bool.and_eq_true, decide_eq_true_eq]
  rfl

end Sys2Proof.Machine

/-- Settles O28. -/
theorem scanResult : Obligations.ScanResult := by
  refine ⟨fun s powered running => ⟨fun scan scanning => ?_, fun idle => ?_⟩, fun s scan raw powered scanning =>
    ⟨_, exec_conversionComplete powered scanning, ?_⟩⟩
  · rw [exec_scanTimerExpiry powered running, scanning]
    rfl
  · rw [exec_scanTimerExpiry powered running, idle]
    rfl
  · refine ⟨?_, fun next following => ?_, fun last => ?_, ?_, complete_flags scan raw s, ?_⟩
    · rw [complete_eq]
      rfl
    · rw [complete_eq]
      exact scanNext_of_next following
    · rw [complete_eq]
      exact scanNext_last last
    · rw [complete_eq]
    · rw [complete_eq]

namespace Sys2Proof.Machine

theorem channelFieldOf_code (assigned : Option (Fin 8)) : channelFieldOf ((assigned.map (·.val)).getD 0xFF) = some assigned := by
  cases assigned with
  | none => rfl
  | some ch =>
    have inside := ch.isLt
    simp only [channelFieldOf, Option.map_some, Option.getD_some]
    rw [if_neg (by omega), idOf_val]
    rfl

theorem channelFieldOf_eq_none {n : Nat} (outside : 8 ≤ n ∧ n ≠ 0xFF) : channelFieldOf n = none := by
  rw [channelFieldOf, if_neg outside.2, idOf_none outside.1]
  rfl

theorem allSome_map {α β : Type} {f : α → Option β} {g : β → α} (inverse : ∀ b, f (g b) = some b) (bs : List β) :
    allSome f (bs.map g) = some bs := by
  induction bs with
  | nil => rfl
  | cons b bs ih => rw [List.map_cons, allSome, inverse, ih]

theorem allSome_eq_none {α β : Type} {f : α → Option β} {as : List α} {a : α} (member : a ∈ as) (absent : f a = none) :
    allSome f as = none := by
  induction as with
  | nil => cases member
  | cons b as ih =>
    rcases List.mem_cons.mp member with rfl | member
    · rw [allSome, absent]
    · rw [allSome, ih member]
      cases f b <;> rfl

theorem tableOf_cells {α : Type} {n : Nat} (t : Tbl α n) : tableOf n t.cells = some t := dif_pos t.size

theorem takeSetScan_eq (list : ScanList) (interval : Nat) (s : State) :
    takeSetScan (list.cells.map fun p => (p.map (·.val)).getD 0xFF) interval s =
      if interval < 100 ∨ 5000 < interval then .refused .range
      else if storeWriting s then .refused .busy
      else
        done (fun s =>
          { s with
            settings := { s.settings with scanList := list, scanInterval := interval / 50 * 50 }
            scanner := { s.scanner with timer := .running (interval / 50 * 50) } }) (fun _ => []) s := by
  have whole : (list.cells.map fun p => (p.map (·.val)).getD 0xFF).length = 8 := by rw [List.length_map, list.size]
  rw [takeSetScan, tableOf, dif_pos whole, allSome_map channelFieldOf_code, Option.bind_some, tableOf_cells]

theorem takeSetScan_out_of_range {positions : List Nat} {interval : Nat} {s : State} (whole : positions.length = 8)
    (outside : ∃ p ∈ positions, 8 ≤ p ∧ p ≠ 0xFF) : takeSetScan positions interval s = .refused .range := by
  obtain ⟨p, member, absent⟩ := outside
  rw [takeSetScan, tableOf, dif_pos whole, allSome_eq_none member (channelFieldOf_eq_none absent)]
  rfl

theorem takeSetChannel_eq {channel : Nat} (inside : channel < 8) (offset gain low high : Nat) (s : State) :
    takeSetChannel channel offset gain low high s =
      if offset ≤ 1023 ∧ 1 ≤ gain ∧ gain ≤ 65535 ∧ low ≤ high ∧ high ≤ 99999 then
        if storeWriting s then .refused .busy
        else
          done (fun s => { s with settings :=
            { s.settings with channels := s.settings.channels.set ⟨channel, inside⟩ ⟨offset, gain, low, high⟩ } }) (fun _ => []) s
      else .refused .range := by
  simp only [takeSetChannel, idOf_of_lt inside]
  rw [← ite_not]
  refine ite_congr ?_ (fun _ => rfl) fun _ => rfl
  simp only [Config.topLuminance, eq_iff_iff]
  omega

end Sys2Proof.Machine

/-- Settles O29. -/
theorem scannerSettings : Obligations.ScannerSettings := by
  refine fun s heard => ⟨fun channel offset gain low high => command_station_eq heard ?_, fun list interval => command_station_eq heard ?_,
    fun positions interval whole outside => command_station_eq heard ?_⟩
  · split_ifs with inside writing
    · rw [takeSetChannel_eq inside.1, if_pos inside.2, if_pos writing]
      rfl
    · rw [takeSetChannel_eq inside.1, if_pos inside.2, if_neg writing]
      rfl
    · by_cases numbered : channel < 8
      · rw [takeSetChannel_eq numbered, if_neg fun fields => inside ⟨numbered, fields⟩]
        rfl
      · rw [takeSetChannel, idOf_none (Nat.le_of_not_lt numbered)]
        rfl
  · rw [takeSetScan_eq, answered_ite, answered_ite]
    rfl
  · rw [takeSetScan_out_of_range whole outside]
    rfl

namespace Sys2Proof.Machine

/-! ### The output tables (R94, R96, R108) -/

theorem roundingOf_code (mode : Rounding) : roundingOf (roundingCode mode) = some mode := by
  cases mode <;> rfl

theorem roundingOf_eq_none {n : Nat} (outside : 3 ≤ n) : roundingOf n = none := by
  match n with
  | n + 3 => rfl

theorem takeSetCompute_out_of_range {mode thermal ceiling : Nat} {s : State}
    (outside : 3 ≤ mode ∨ thermal < 300 ∨ 1000 < thermal ∨ ceiling < 2000 ∨ 10000 < ceiling) :
    takeSetCompute mode thermal ceiling s = .refused .range := by
  unfold takeSetCompute
  split
  next => rfl
  next m found =>
    refine if_pos (outside.resolve_left fun high => ?_)
    rw [roundingOf_eq_none high] at found
    cases found

/-- SET_MAINTENANCE's checks on the rows are the table's own condition (R96). -/
theorem maintenance_checks_iff {rows : List MaintenanceRow} {count : Nat} (whole : rows.length = count) :
    (count < 1 ∨ 8 < count ∨ ((rows.map fun r => (r.threshold, r.factor)).map (·.1)).head? ≠ some 0 ∨
      rising ((rows.map fun r => (r.threshold, r.factor)).map (·.1)) = false ∨
      (rows.map fun r => (r.threshold, r.factor)).all (fun r => decide (500 ≤ r.2 ∧ r.2 ≤ 1000)) = false) ↔ ¬maintenanceInRange rows := by
  subst whole
  rw [maintenanceInRange_iff, List.map_map]
  have all : (rows.map fun r => (r.threshold, r.factor)).all (fun r => decide (500 ≤ r.2 ∧ r.2 ≤ 1000)) = true ↔
      ∀ r ∈ rows, 500 ≤ r.factor ∧ r.factor ≤ 1000 := by
    simp
  rw [← all]
  simp only [not_and_or, Bool.not_eq_true, not_le, Nat.lt_one_iff, or_assoc]
  rfl

theorem takeSetMaintenance_out_of_range {rows : List MaintenanceRow} {count : Nat} {s : State} (whole : rows.length = count)
    (outside : ¬maintenanceInRange rows) : takeSetMaintenance count (rows.map fun r => (r.threshold, r.factor)) s = .refused .range :=
  (if_neg (not_not.mpr ((List.length_map ..).trans whole))).trans (if_pos ((maintenance_checks_iff whole).mpr outside))

theorem takeSetMaintenance_in_range {rows : List MaintenanceRow} {count : Nat} {s : State} (whole : rows.length = count)
    (inside : maintenanceInRange rows) : takeSetMaintenance count (rows.map fun r => (r.threshold, r.factor)) s =
      if storeWriting s then .refused .busy
      else done (fun s => { s with settings := { s.settings with maintenance := rows } }) (fun _ => []) s := by
  refine (if_neg (not_not.mpr ((List.length_map ..).trans whole))).trans ((if_neg fun outside =>
    (maintenance_checks_iff whole).mp outside inside).trans ?_)
  rw [List.map_map]
  simp only [Function.comp_def, List.map_id']

theorem takeSetCurve_out_of_range {cls : Nat} {curve : Curve} {s : State} (outside : 4 ≤ cls ∨ ¬Curve.InRange curve) :
    takeSetCurve cls curve.cells s = .refused .range := by
  rw [takeSetCurve, tableOf_cells]
  dsimp only
  split
  next => rfl
  next c found =>
    rw [if_pos]
    rw [← Bool.not_eq_true, curveInRange_iff]
    exact outside.resolve_left (Nat.not_le.mpr (idOf_lt found))

theorem takeSetCurve_in_range {c : Fin 4} {curve : Curve} {s : State} (inside : Curve.InRange curve) :
    takeSetCurve c.val curve.cells s =
      if storeWriting s then .refused .busy
      else done (fun s => { s with settings := { s.settings with curves := s.settings.curves.set c curve } }) (fun _ => []) s := by
  rw [takeSetCurve, tableOf_cells, idOf_val]
  exact if_neg (Bool.not_eq_false _ ▸ (curveInRange_iff curve).mpr inside)

end Sys2Proof.Machine

/-- Settles O38. -/
theorem outputTableCommands : Obligations.OutputTableCommands := by
  intro s heard
  refine ⟨fun mode thermal ceiling outside => command_station_eq heard ?_, fun mode thermal ceiling h₁ h₂ h₃ h₄ => command_station_eq heard ?_,
    fun count rows => ⟨fun partial_ => command_station_eq heard ?_, fun whole outside => command_station_eq heard ?_,
      fun whole inside => command_station_eq heard ?_⟩,
    fun cls points => ⟨fun partial_ => command_station_eq heard ?_, fun curve carried => ⟨fun outside => command_station_eq heard ?_,
      fun c named inside => command_station_eq heard ?_⟩⟩⟩
  · rw [takeSetCompute_out_of_range outside]
    rfl
  · rw [takeSetCompute, roundingOf_code]
    dsimp only
    rw [if_neg (by omega), answered_ite]
    refine ite_congr rfl (fun _ => rfl) fun _ => ?_
    rfl
  · rw [takeSetMaintenance, if_pos (by rw [List.length_map]; exact partial_)]
    rfl
  · rw [takeSetMaintenance_out_of_range whole outside]
    rfl
  · rw [takeSetMaintenance_in_range whole inside, answered_ite]
    rfl
  · rw [takeSetCurve, tableOf, dif_neg partial_]
    rfl
  · rw [← carried, takeSetCurve_out_of_range outside]
    rfl
  · rw [← carried, ← named, takeSetCurve_in_range inside, answered_ite]
    rfl
end

/-! PROOFS. A portal's selection (O30), control state (O33) and update (O31). -/
section
namespace Sys2Proof.Machine

open Sys2Proof

/-! ### Selection (R58 to R61) -/

section Selection

variable (s : State) (limit : Nat) (assigned : Option (Fin 8)) (sight : Sight)

theorem findPosition_unassigned : findPosition s limit none sight = (sight, none) := rfl

theorem look_new {number : BitVec 8} {sight : Sight} (new : sight.lastSeen ≠ some number) : look number sight = ⟨some number, 0⟩ :=
  if_neg new

theorem look_seen {number : BitVec 8} {sight : Sight} (seen : sight.lastSeen = some number) :
    (look number sight).lastSeen = sight.lastSeen ∧
      (look number sight).staleness = if sight.staleness < 15 then sight.staleness + 1 else 15 := by
  rw [look, if_pos seen]
  refine ⟨rfl, ?_⟩
  simp only
  split_ifs <;> omega

theorem selectable_iff (status : ReadingStatus) : selectable status = true ↔ status = .valid ∨ status = .saturated := by
  cases status <;> simp [selectable]

/-- What an update finds at a position is the luminance of a channel assigned there and usable (R59). -/
theorem findPosition_eq_some_iff (luminance : Nat) :
    (findPosition s limit assigned sight).2 = some luminance ↔
      ∃ ch, assigned = some ch ∧
        ((s.scanner.readings.get ch).status = .valid ∨ (s.scanner.readings.get ch).status = .saturated) ∧
        (findPosition s limit assigned sight).1.staleness < limit ∧ (s.scanner.readings.get ch).luminance = some luminance := by
  cases assigned with
  | none => simp [findPosition_unassigned]
  | some ch =>
    simp only [findPosition, usable, Option.some.injEq, exists_eq_left', ← selectable_iff]
    split_ifs with found
    · simp only [Bool.and_eq_true, decide_eq_true_eq] at found
      simp [found]
    · simp only [Bool.and_eq_true, decide_eq_true_eq] at found
      simp only [false_iff, not_and]
      exact fun status stale => absurd ⟨status, stale⟩ found

end Selection

theorem disagree_iff (setting x y : Nat) : disagree setting x y = true ↔ setting * max x y < (max x y - min x y) * 1000 := by
  simp [disagree]

theorem selected_none {a b : Option Nat} (primary : a = none) (secondary : b = none) : selected a b = none := by
  rw [primary, secondary]
  rfl

end Sys2Proof.Machine

open Sys2Proof Sys2Proof.Machine

/-- Settles O30: each position by itself, then the selection over what the two find. -/
theorem selectionRule : Obligations.SelectionRule := by
  intro s c live reading stale usableAt failure after luminance a b
  have sighted (assigned : Option (Fin 8)) (before : Sight) : stale assigned before (findPosition s c.staleLimit assigned before).1 := by
    refine ⟨fun unassigned => by rw [unassigned, findPosition_unassigned], fun ch position => ?_⟩
    rw [position]
    exact ⟨look_new, look_seen⟩
  have first (x : Nat) : a x ↔ (findPosition s c.staleLimit c.primary live.primarySight).2 = some x :=
    (findPosition_eq_some_iff s c.staleLimit c.primary live.primarySight x).symm
  have second (y : Nat) : b y ↔ (findPosition s c.staleLimit c.secondary live.secondarySight).2 = some y :=
    (findPosition_eq_some_iff s c.staleLimit c.secondary live.secondarySight y).symm
  have chosen : luminance = selected (findPosition s c.staleLimit c.primary live.primarySight).2
      (findPosition s c.staleLimit c.secondary live.secondarySight).2 := rfl
  have flagged : after.disagreeing = match (findPosition s c.staleLimit c.primary live.primarySight).2,
      (findPosition s c.staleLimit c.secondary live.secondarySight).2 with
    | some x, some y => disagree c.disagreement x y
    | _, _ => false := rfl
  simp only [first, second]
  rw [chosen, flagged]
  generalize (findPosition s c.staleLimit c.primary live.primarySight).2 = x
  generalize (findPosition s c.staleLimit c.secondary live.secondarySight).2 = y
  refine ⟨rfl, sighted .., sighted .., ?_, ?_, ?_, ?_, ?_, fun ch primary => ?_, fun ch none secondary => ?_, fun none₁ none₂ => ?_⟩
  · rintro v w rfl rfl
    rfl
  · rintro v rfl none
    cases y with
    | none => rfl
    | some w => exact absurd rfl (none w)
  · rintro w rfl none
    cases x with
    | none => rfl
    | some v => exact absurd rfl (none v)
  · intro none₁ none₂
    exact selected_none (Option.eq_none_iff_forall_ne_some.mpr none₁) (Option.eq_none_iff_forall_ne_some.mpr none₂)
  · cases x <;> cases y <;> simp [disagree_iff]
  · rw [causeFormed, primary]
    rfl
  · rw [causeFormed, none, secondary]
    rfl
  · rw [causeFormed, none₁, none₂]

namespace Sys2Proof.Machine

/-! ### The control state (R65 to R69) -/

end Sys2Proof.Machine

/-- Settles O33: the table of control states, S found or not, and the counts at their limits or below. -/
theorem controlStateRule : Obligations.ControlStateRule := by
  intro c sel formed live after waiting returns enters recovers
  rcases live with ⟨control, filtered, seeded, trend, fallHold, holdCount, goodCount, cause, priorCause, manualLth, disagreeing, riseJump,
    controlLth, appliedLth, primarySight, secondarySight, stages, updated, timer⟩
  cases control <;> cases sel
  case start.none =>
    by_cases limit : c.holdLimit ≤ holdCount + 1 <;>
      simp [after, waiting, returns, enters, recovers, controlPass, enterFallback, limit]
  case hold.none =>
    by_cases limit : c.holdLimit ≤ holdCount + 1 <;>
      simp [after, waiting, returns, enters, recovers, controlPass, enterFallback, limit]
  case fallback.some =>
    by_cases limit : c.recoverCount ≤ goodCount + 1 <;>
      simp [after, waiting, returns, enters, recovers, controlPass, limit]
  all_goals simp [after, waiting, returns, enters, recovers, controlPass]

namespace Sys2Proof.Machine

/-! ### The update (R57) -/

theorem controlLthOf_eq (mode : Rounding) (c : PortalConfig) (live : PortalLive) :
    controlLthOf mode c live =
      let fromFilter :=
        if live.seeded then min c.lthCap (max c.lthMin (divRound mode (live.filtered * c.k) 1000)) else c.lthFallback
      match live.control with
      | .start => c.lthFallback
      | .auto => fromFilter
      | .hold => fromFilter
      | .fallback => c.lthFallback
      | .manual => live.manualLth := by
  unfold controlLthOf
  cases live.control <;> rfl

theorem appliedLthOf_eq (role : Role) (control : Nat) : appliedLthOf role control = if role = .entrance then control else 0 := by
  cases role <;> rfl

theorem and_not_eq_decide (x y : Bool) : (x && !y) = decide (y = false ∧ x = true) := by
  cases x <;> cases y <;> rfl

/-- An update's passes after the control part, over the record that part leaves (R57). -/
theorem update_eq {s : State} {p : Fin 4} {after : PortalLive}
    (written : { controlled s p with updated := true, timer := .running (s.settings.portals.get p).updateInterval } = after) :
    update p s = levelPass p (outputPass p (capacityPass p
      (reportIf (decide ((s.portals.get p).control ≠ .fallback) && decide (after.control = .fallback)) (.pFallback p)
        (reportIf (decide ((s.portals.get p).control = .auto) && decide (after.control = .hold)) (.pHold p)
          (reportIf (after.disagreeing && !(s.portals.get p).disagreeing) (.pDisagree p) (putPortal p after s)))))) := by
  subst written
  rfl

theorem exec_updateTimerExpiry {s : State} {p : Fin 4} (powered : s.powered = true) (running : (s.portals.get p).timer.isRunning = true) :
    exec (.updateTimerExpiry p) s = .next (considerAll (update p s)) :=
  congrArg Host.Outcome.next ((whenPowered_of_powered powered _).trans (if_pos running))

end Sys2Proof.Machine

/-- Settles O31: the passes in the order of the update's definition. -/
theorem updateResult : Obligations.UpdateResult := by
  intro s p powered running c mode before luminance live fromFilter control applied required slewed
  have lth : controlLthOf mode c live = control := controlLthOf_eq mode c live
  have appliedLth : appliedLthOf c.role control = applied := appliedLthOf_eq ..
  have passed : controlled s p = stagePass mode c { live with controlLth := control, appliedLth := applied } := by
    rw [← appliedLth, ← lth]
    rfl
  refine ⟨(controlled s p).stages, fun j => ?_, ?_⟩
  · rw [passed, stagePass, Tbl.get_mapIdx]
    rfl
  · intro after reported
    have written : { controlled s p with updated := true, timer := .running c.updateInterval } = after := by
      rw [show after = { live with
        controlLth := control, appliedLth := applied, stages := (controlled s p).stages,
        fallHold := if live.control = .auto then live.fallHold - 1 else live.fallHold, riseJump := false, updated := true,
        timer := .running c.updateInterval } from rfl, passed]
      rfl
    have disagreed : (after.disagreeing && !before.disagreeing) = decide (before.disagreeing = false ∧ after.disagreeing = true) :=
      and_not_eq_decide ..
    have held : (decide (before.control = .auto) && decide (after.control = .hold)) = decide (before.control = .auto ∧ after.control = .hold) :=
      (Bool.decide_and ..).symm
    have fell : (decide (before.control ≠ .fallback) && decide (after.control = .fallback)) =
        decide (before.control ≠ .fallback ∧ after.control = .fallback) := (Bool.decide_and ..).symm
    rw [exec_updateTimerExpiry powered running, update_eq written, disagreed, held, fell]
end

/-! PROOFS. The portals' commands: SET_MANUAL, SET_AUTO and SET_ROLE (O35), SET_STAGES (O36), SET_PORTAL (O37). -/
section
namespace Sys2Proof.Machine

open Sys2Proof

/-! ### SET_MANUAL, SET_AUTO and SET_ROLE (R69, R70, R72) -/

theorem takeSetManual_in_range {portal luminance : Nat} {s : State} (inside : portal < 4 ∧ luminance ≤ 99999) :
    answered s (takeSetManual portal luminance s) =
      takenAs s (putPortal ⟨portal, inside.1⟩
        { s.portals.get ⟨portal, inside.1⟩ with
          control := .manual
          manualLth := min luminance (s.settings.portals.get ⟨portal, inside.1⟩).lthCap
          holdCount := 0
          goodCount := 0 } (closeWindow s)) [] := by
  rw [takeSetManual, idOf_of_lt inside.1]
  dsimp only
  rw [if_neg (show ¬Config.topLuminance < luminance from Nat.not_lt.mpr inside.2)]
  rfl

theorem takeSetManual_out_of_range {portal luminance : Nat} {s : State} (outside : ¬(portal < 4 ∧ luminance ≤ 99999)) :
    takeSetManual portal luminance s = .refused .range := by
  unfold takeSetManual
  split
  next => rfl
  next p found => exact if_pos (Nat.lt_of_not_le fun inside => outside ⟨idOf_lt found, inside⟩)

/-- A command on a portal: what it leaves for a portal in range, and its refusal with RANGE otherwise. -/
theorem portal_command {s : State} (heard : hears s = true) {take : State → Verdict} {portal : Nat} {left : portal < 4 → State}
    (inside : ∀ h, idOf 4 portal = some ⟨portal, h⟩ → answered s (take s) = left h)
    (outside : idOf 4 portal = none → take s = .refused .range) :
    command .station take s = .next (if h : portal < 4 then left h else refusedAs s .range) := by
  refine command_station_eq heard ?_
  split_ifs with h
  · exact inside h (idOf_of_lt h)
  · rw [outside (idOf_none (Nat.le_of_not_lt h))]
    rfl

/-- The code of a role (R185). -/
def codeOfRole (role : Role) : Nat := match role with | .entrance => 0 | .exit => 1 | .closed => 2

theorem roleOf_code (role : Role) : roleOf (codeOfRole role) = some role := by
  cases role <;> rfl

theorem roleOf_eq_none {n : Nat} (outside : 3 ≤ n) : roleOf n = none := by
  match n with
  | n + 3 => rfl

theorem exists_code_of_role {n : Nat} (inside : n < 3) : ∃ role, roleOf n = some role := by
  match n with
  | 0 => exact ⟨.entrance, rfl⟩
  | 1 => exact ⟨.exit, rfl⟩
  | 2 => exact ⟨.closed, rfl⟩

theorem takeSetRole_out_of_range {portal role : Nat} {s : State} (outside : 4 ≤ portal ∨ 3 ≤ role) :
    takeSetRole portal role s = .refused .range := by
  unfold takeSetRole
  split
  next p r foundPortal foundRole =>
    rcases outside with outside | outside
    · exact absurd (idOf_lt foundPortal) (Nat.not_lt.mpr outside)
    · rw [roleOf_eq_none outside] at foundRole
      cases foundRole
  next => rfl

theorem takeSetRole_writing {p : Fin 4} {role : Nat} {s : State} (inside : role < 3) (writing : storeWriting s = true) :
    takeSetRole p.val role s = .refused .busy := by
  obtain ⟨r, found⟩ := exists_code_of_role inside
  rw [takeSetRole, idOf_val, found]
  exact if_pos writing

theorem takeSetRole_taken {p : Fin 4} {role : Role} {s : State} (free : storeWriting s = false) :
    takeSetRole p.val (codeOfRole role) s = done (setRoleAt p role) (fun _ => []) s := by
  rw [takeSetRole, idOf_val, roleOf_code]
  exact if_neg (Bool.eq_false_iff.mp free)

/-- What a change of role does, by the role that follows (R72). -/
theorem setRoleAt_eq (p : Fin 4) (role : Role) (s : State) :
    let old := (s.settings.portals.get p).role
    let written := modifyPortalConfig p (fun c => { c with role := role }) s
    setRoleAt p role s =
      if role = old then s
      else if role = .closed then considerAll (recompute p (modifyPortal p darkened written))
      else if role = .entrance ∨ old = .closed then modifyPortal p (fun live => { live with riseJump := true }) written
      else written := by
  unfold setRoleAt
  cases role <;> simp

end Sys2Proof.Machine

open Sys2Proof Sys2Proof.Machine

/-- Settles O35. -/
theorem manualAutoAndRole : Obligations.ManualAutoAndRole := by
  refine ⟨fun s heard => ⟨fun portal luminance => command_station_eq heard ?_, fun portal => portal_command heard (fun h found => ?_)
      fun none => by rw [takeSetAuto, none]⟩,
    fun s heard => ⟨fun portal role outside => command_station_eq heard ?_, fun p role inside writing => command_station_eq heard ?_,
      fun p role free => command_station_eq heard ?_⟩⟩
  · split_ifs with inside
    · exact takeSetManual_in_range inside
    · rw [takeSetManual_out_of_range inside]
      rfl
  · simp only [takeSetAuto, found, answered_ite]
    rfl
  · rw [takeSetRole_out_of_range outside]
    rfl
  · rw [takeSetRole_writing inside writing]
    rfl
  · refine (congrArg (answered s) (takeSetRole_taken free)).trans ?_
    rw [answered_done, setRoleAt_eq]
    rfl

namespace Sys2Proof.Machine

/-! ### SET_STAGES (R79, R80) -/

theorem takeSetStages_out_of_range {portal : Nat} {pairs : List (Nat × Nat)} {s : State}
    (outside : 4 ≤ portal ∨ pairs.length < 1 ∨ 8 < pairs.length ∨ ∃ x ∈ pairs, 1000 < x.1 ∨ 99999 < x.2) :
    takeSetStages portal pairs.length pairs s = .refused .range := by
  refine (if_neg (not_not.mpr rfl)).trans ?_
  split
  next => rfl
  next p found =>
    refine if_pos ?_
    rcases outside with h | h | h | ⟨x, member, h⟩
    · exact absurd (idOf_lt found) (Nat.not_lt.mpr h)
    · exact .inl h
    · exact .inr (.inl h)
    · refine .inr (.inr (List.all_eq_false.mpr ⟨x, member, ?_⟩))
      intro checked
      have bounds : x.1 ≤ 1000 ∧ x.2 ≤ 99999 := of_decide_eq_true checked
      omega

theorem takeSetStages_in_range {p : Fin 4} {pairs : List (Nat × Nat)} {s : State} (low : 1 ≤ pairs.length) (high : pairs.length ≤ 8)
    (inside : ∀ x ∈ pairs, x.1 ≤ 1000 ∧ x.2 ≤ 99999) :
    takeSetStages p.val pairs.length pairs s =
      if storeWriting s then .refused .busy else done (setStagesAt p pairs) (fun _ => []) s := by
  refine (if_neg (not_not.mpr rfl)).trans ?_
  rw [idOf_val]
  refine if_neg ?_
  have checked : pairs.all (fun x => decide (x.1 ≤ 1000 ∧ x.2 ≤ Config.topLuminance)) = true :=
    List.all_eq_true.mpr fun x member => decide_eq_true (inside x member)
  rw [checked]
  simp only [Bool.true_eq_false, or_false]
  omega

theorem stageConfigsOf_get (pairs : List (Nat × Nat)) (j : Fin 8) :
    (stageConfigsOf pairs).get j = ⟨(pairs[j.val]?.getD (0, 0)).1, (pairs[j.val]?.getD (0, 0)).2⟩ := by
  rw [stageConfigsOf, Tbl.get_tabulate]
  cases pairs[j.val]? <;> rfl

end Sys2Proof.Machine

/-- Settles O36. -/
theorem setStagesResult : Obligations.SetStagesResult := by
  intro s portal count pairs heard
  refine ⟨fun partial_ => command_station_eq heard ?_, ?_, ?_⟩
  · rw [takeSetStages, if_pos partial_]
    rfl
  · rintro rfl outside
    refine command_station_eq heard ?_
    rw [takeSetStages_out_of_range outside]
    rfl
  · rintro p rfl rfl low high inside config live
    refine ⟨fun writing => command_station_eq heard ?_, fun free => ⟨stageConfigsOf pairs,
      live.stages.mapIdx fun j st => if j.val < config.stageCount ∧ j.val < pairs.length then st else Stage.unused,
      command_station_eq heard ?_, stageConfigsOf_get pairs, fun j => by rw [Tbl.get_mapIdx]⟩⟩
    · rw [takeSetStages_in_range low high inside, if_pos writing]
      rfl
    · rw [takeSetStages_in_range low high inside, if_neg (Bool.eq_false_iff.mp free)]
      have jump : (live.riseJump || decide (config.stageCount < pairs.length)) =
          if config.stageCount < pairs.length then true else live.riseJump := by
        split_ifs with raised <;> simp [raised]
      rw [jump]
      rfl

namespace Sys2Proof.Machine

/-! ### SET_PORTAL (R73) -/

theorem differentChannels_iff (primary secondary : Option (Fin 8)) :
    differentChannels primary secondary = true ↔ (primary = secondary → primary = none) := by
  cases primary <;> cases secondary <;> simp [differentChannels]

theorem portalFieldsInRange_iff (c : PortalFields) : portalFieldsInRange c = true ↔
    (1 ≤ c.k ∧ c.k ≤ 200) ∧ (c.lthMin ≤ c.lthCap ∧ c.lthFallback ≤ c.lthCap ∧ c.lthCap ≤ 99999) ∧ (1 ≤ c.w ∧ c.w ≤ 256) ∧
      (1 ≤ c.up ∧ c.up ≤ 1000) ∧ (1 ≤ c.dn ∧ c.dn ≤ 1000) ∧ c.deadBand ≤ 100 ∧ c.fallHoldLength ≤ 255 ∧
      (1 ≤ c.staleLimit ∧ c.staleLimit ≤ 15) ∧ (1 ≤ c.holdLimit ∧ c.holdLimit ≤ 255) ∧ (1 ≤ c.recoverCount ∧ c.recoverCount ≤ 15) ∧
      (1 ≤ c.disagreement ∧ c.disagreement ≤ 1000) ∧ c.uMin ≤ 2000 ∧ 250 ≤ c.updateInterval ∧ c.updateInterval ≤ 10000 := by
  simp only [portalFieldsInRange, Bool.and_eq_true, decide_eq_true_eq]
  constructor
  · rintro ⟨⟨⟨⟨⟨⟨⟨⟨⟨⟨⟨⟨⟨⟨⟨k, -⟩, order⟩, cap⟩, fallback⟩, w⟩, up⟩, dn⟩, dead⟩, hold⟩, stale⟩, holds⟩, recover⟩, disagree⟩, uMin⟩, interval⟩
    exact ⟨k, ⟨order, fallback, cap⟩, w, up, dn, dead, hold, stale, holds, recover, disagree, uMin, interval⟩
  · rintro ⟨k, ⟨order, fallback, cap⟩, w, up, dn, dead, hold, stale, holds, recover, disagree, uMin, interval⟩
    exact ⟨⟨⟨⟨⟨⟨⟨⟨⟨⟨⟨⟨⟨⟨⟨k, order.trans cap⟩, order⟩, cap⟩, fallback⟩, w⟩, up⟩, dn⟩, dead⟩, hold⟩, stale⟩, holds⟩, recover⟩, disagree⟩, uMin⟩, interval⟩

/-- SET_PORTAL with its channels and fields in range comes to BUSY alone (R73). -/
theorem takeSetPortal_in_range {p : Fin 4} {c : PortalFields} {primary secondary : Option (Fin 8)} {s : State}
    (first : c.primary = (primary.map (·.val)).getD 0xFF) (second : c.secondary = (secondary.map (·.val)).getD 0xFF)
    (different : primary = secondary → primary = none) (inside : portalFieldsInRange c = true) :
    takeSetPortal p.val c s = if storeWriting s then .refused .busy else done (setPortalAt p c primary secondary) (fun _ => []) s := by
  rw [takeSetPortal, idOf_val, first, second, channelFieldOf_code, channelFieldOf_code]
  exact if_pos (by rw [inside, (differentChannels_iff ..).mpr different]; rfl)

theorem exists_channel_of_code {n : Nat} (inside : ¬(8 ≤ n ∧ n ≠ 0xFF)) : ∃ assigned : Option (Fin 8), n = (assigned.map (·.val)).getD 0xFF := by
  by_cases absent : n = 0xFF
  · exact ⟨none, absent⟩
  · exact ⟨some ⟨n, by omega⟩, rfl⟩

theorem code_injective {a b : Option (Fin 8)} (same : (a.map (·.val)).getD 0xFF = (b.map (·.val)).getD 0xFF) : a = b :=
  Option.some.inj ((channelFieldOf_code a).symm.trans (same ▸ channelFieldOf_code b))

/-- What SET_PORTAL refuses with RANGE (R73). -/
theorem takeSetPortal_out_of_range {portal : Nat} {c : PortalFields} {s : State}
    (outside : 4 ≤ portal ∨ (8 ≤ c.primary ∧ c.primary ≠ 0xFF) ∨ (8 ≤ c.secondary ∧ c.secondary ≠ 0xFF) ∨
      (c.primary = c.secondary ∧ c.primary ≠ 0xFF) ∨ portalFieldsInRange c = false) :
    takeSetPortal portal c s = .refused .range := by
  unfold takeSetPortal
  split
  next p primary secondary foundPortal foundPrimary foundSecondary =>
    refine if_neg fun checked => ?_
    obtain ⟨inside, different⟩ := Bool.and_eq_true_iff.mp checked
    rcases outside with h | h | h | ⟨same, assigned⟩ | h
    · exact absurd (idOf_lt foundPortal) (Nat.not_lt.mpr h)
    · rw [channelFieldOf_eq_none h] at foundPrimary
      cases foundPrimary
    · rw [channelFieldOf_eq_none h] at foundSecondary
      cases foundSecondary
    · rw [← same, foundPrimary] at foundSecondary
      cases foundSecondary
      obtain rfl := (differentChannels_iff ..).mp different rfl
      refine absurd foundPrimary ?_
      rw [channelFieldOf, if_neg assigned]
      cases idOf 8 c.primary <;> exact nofun
    · rw [h] at inside
      cases inside
  next => rfl

end Sys2Proof.Machine

/-- Settles O37. -/
theorem setPortalResult : Obligations.SetPortalResult := by
  refine ⟨?_, ?_⟩
  · intro s p c primary secondary heard free first second different k lth w up dn dead hold stale holds recover disagree uMin interval
      old live rounded sight new written
    refine command_station_eq heard ?_
    rw [takeSetPortal_in_range first second different ((portalFieldsInRange_iff c).mpr
      ⟨k, lth, w, up, dn, dead, hold, stale, holds, recover, disagree, uMin, interval⟩), if_neg (Bool.eq_false_iff.mp free)]
    rfl
  · intro s portal c heard outOfRange
    have channels : outOfRange ↔ 4 ≤ portal ∨ (8 ≤ c.primary ∧ c.primary ≠ 0xFF) ∨ (8 ≤ c.secondary ∧ c.secondary ≠ 0xFF) ∨
        (c.primary = c.secondary ∧ c.primary ≠ 0xFF) ∨ portalFieldsInRange c = false := by
      rw [← Bool.not_eq_true, portalFieldsInRange_iff]
      omega
    refine ⟨fun outside => command_station_eq heard ?_, fun inside writing => command_station_eq heard ?_⟩
    · rw [takeSetPortal_out_of_range (channels.mp outside)]
      rfl
    · rw [channels] at inside
      simp only [not_or, Bool.not_eq_false] at inside
      obtain ⟨portalInside, primaryInside, secondaryInside, different, fields⟩ := inside
      obtain ⟨primary, first⟩ := exists_channel_of_code primaryInside
      obtain ⟨secondary, second⟩ := exists_channel_of_code secondaryInside
      have apart : primary = secondary → primary = none := by
        rintro rfl
        by_contra assigned
        refine different ⟨first.trans second.symm, fun absent => assigned ?_⟩
        exact code_injective (b := none) (first.symm.trans absent)
      rw [show portal = (⟨portal, Nat.lt_of_not_le portalInside⟩ : Fin 4).val from rfl,
        takeSetPortal_in_range first second apart fields, if_pos writing]
      rfl
end

/-! PROOFS. Set levels and requests (O42), the override commands (O43), force, limit and the inputs (O44). -/
section
namespace Sys2Proof.Machine

open Sys2Proof

/-! ### Set levels and requests (R109 to R112) -/

theorem decidedLevel_eq (s : State) (e : Entry) : decidedLevel s e =
    if e.health = .lampFail ∨ e.health = .gearFail then 0
    else if e.health = .lost then e.setLevel
    else match e.pin with
      | some code => code
      | none =>
          if e.stage.val < (s.settings.portals.get e.portal).stageCount then
            codeOf s.settings.compute.mode (s.settings.curves.get e.cls) ((s.portals.get e.portal).stages.get e.stage).u
          else 0 := by
  simp only [decidedLevel, inUse, decide_eq_true_eq]
  cases e.health <;> cases e.pin <;> simp

/-- A fold of steps that agree wherever an invariant holds, which the steps keep. -/
theorem foldl_congr_of_invariant {α β : Type} {I : β → Prop} {f g : β → α → β} (same : ∀ b a, I b → f b a = g b a)
    (kept : ∀ b a, I b → I (g b a)) (as : List α) {b : β} (start : I b) : as.foldl f b = as.foldl g b := by
  induction as generalizing b with
  | nil => rfl
  | cons a as ih => rw [List.foldl_cons, List.foldl_cons, same b a start, ih (kept b a start)]

/-- A request that arrives leaves every line as usable as it was. -/
theorem lineUsable_enqueued (s : State) (l m : Fin 4) (r : Request) :
    lineUsable { s with lines := s.lines.modify l fun u => { u with queue := enqueue r u.queue } } m = lineUsable s m := by
  simp only [lineUsable, Tbl.get_modify]
  split_ifs <;> rfl

end Sys2Proof.Machine

open Sys2Proof Sys2Proof.Machine

/-- Settles O42: no request handed on the way makes a line less usable for the next. -/
theorem setLevelRule : Obligations.SetLevelRule := by
  intro s p leveled written
  have levels : writeLevels p s = written := by
    have same : (fun e => if drivenBy p e then { e with setLevel := decidedLevel s e } else e) = leveled := by
      funext e
      simp only [drivenBy, Bool.and_eq_true, decide_eq_true_eq, leveled, decidedLevel_eq]
      refine ite_congr rfl (fun driven => ?_) fun _ => rfl
      obtain ⟨rfl, -⟩ := driven
      rfl
    exact congrArg (fun f => { s with roster := { s.roster with slots := s.roster.slots.map f } }) same
  rw [levelPass, levels, handRequests, Tbl.indexed_eq, List.foldl_map]
  refine foldl_congr_of_invariant (I := fun t => ∀ l, lineUsable t l = lineUsable s l) (fun t k usable => ?_) (fun t k usable => ?_) _
    fun _ => rfl
  · have entry : written.roster.slots.get k = leveled (entryAt s k) := Tbl.get_map ..
    simp only [entry]
    generalize leveled (entryAt s k) = e
    by_cases line : lineUsable s e.line = true
    · have handed : handLevel e.line k e.address e.setLevel t =
          { t with lines := t.lines.modify e.line fun u => { u with queue := enqueue ⟨.level e.setLevel, k, e.address⟩ u.queue } } :=
        if_pos ((usable e.line).trans line)
      rw [handed]
      refine ite_congr ?_ (fun _ => rfl) fun _ => rfl
      have same : lineUsable written e.line = true := line
      simp only [drivenBy, wantsRequest, same, line, Bool.and_eq_true, Bool.or_eq_true, Bool.not_eq_true', decide_eq_true_eq,
        Option.isSome_iff_ne_none, and_assoc, or_assoc, true_and, and_true]
      rfl
    · have same : lineUsable written e.line = false := Bool.not_eq_true _ ▸ line
      simp [wantsRequest, same, line]
  · dsimp only
    split_ifs
    · exact fun l => (lineUsable_enqueued ..).trans (usable l)
    · exact usable

namespace Sys2Proof.Machine

/-! ### The override commands (R122, R123, R125) -/

theorem fourPositions_eq_none {mask : BitVec 8} (set : mask.extractLsb' 4 4 ≠ 0#4) : fourPositions mask = none := if_neg set

theorem fourPositions_append (m : BitVec 4) : fourPositions (0#4 ++ m) = some m := by
  have high : (0#4 ++ m).extractLsb' 4 4 = 0#4 := by
    revert m
    decide
  have low : (0#4 ++ m).extractLsb' 0 4 = m := by
    revert m
    decide
  rw [fourPositions, if_pos high, low]

/-- A mask command with a must-be-zero position set (R186). -/
theorem mask_command_format {s : State} (heard : hears s = true) {effect : BitVec 4 → State → State} {mask : BitVec 8}
    (set : mask.extractLsb' 4 4 ≠ 0#4) (dest : Dest) :
    command dest (takeMask effect mask) s = .next { s with link := linkAfter dest s .format [] .nothing } := by
  refine command_refused heard ?_
  rw [takeMask, fourPositions_eq_none set]

/-- A mask command taken (R122, R123). -/
theorem mask_command_taken {s : State} (heard : hears s = true) {effect : BitVec 4 → State → State} (m : BitVec 4) (dest : Dest) :
    command dest (takeMask effect (0#4 ++ m)) s =
      .next { effect m (closeWindow s) with link := linkAfter dest s .done [] .nothing } := by
  refine command_taken heard (held := .nothing) ?_
  rw [takeMask, fourPositions_append]
  rfl

theorem inputOf_succ (i : Fin 6) : inputOf (i.val + 1) = some i := by
  rw [inputOf, if_neg (Nat.succ_ne_zero _), Nat.add_sub_cancel, idOf_val]

theorem inputOf_inside {n : Nat} {i : Fin 6} (found : inputOf n = some i) : 1 ≤ n ∧ n ≤ 6 := by
  unfold inputOf at found
  split_ifs at found with zero
  have := idOf_lt found
  omega

theorem functionOf_code (f : InputFunction) : functionOf (functionCode f) = some f := by
  cases f <;> rfl

theorem senseOf_code (x : Sense) : senseOf (senseCode x) = some x := by
  cases x <;> rfl

theorem polarityOf_code (x : Polarity) : polarityOf (polarityCode x) = some x := by
  cases x <;> rfl

theorem functionOf_eq_none {n : Nat} (outside : 3 ≤ n) : functionOf n = none := by
  match n with
  | n + 3 => rfl

theorem senseOf_eq_none {n : Nat} (outside : 2 ≤ n) : senseOf n = none := by
  match n with
  | n + 2 => rfl

theorem polarityOf_eq_none {n : Nat} (outside : 2 ≤ n) : polarityOf n = none := by
  match n with
  | n + 2 => rfl

theorem takeSetInput_out_of_range {input function sense polarity : Nat} {mask : BitVec 8} {s : State} (clear : mask.extractLsb' 4 4 = 0#4)
    (outside : input < 1 ∨ 6 < input ∨ 3 ≤ function ∨ 2 ≤ sense ∨ 2 ≤ polarity) :
    takeSetInput input function mask sense polarity s = .refused .range := by
  rw [takeSetInput, fourPositions, if_pos clear]
  dsimp only
  split
  next i f se po foundInput foundFunction foundSense foundPolarity =>
    rcases outside with h | h | h | h | h
    · exact absurd (inputOf_inside foundInput).1 (Nat.not_le.mpr h)
    · exact absurd (inputOf_inside foundInput).2 (Nat.not_le.mpr h)
    · rw [functionOf_eq_none h] at foundFunction
      cases foundFunction
    · rw [senseOf_eq_none h] at foundSense
      cases foundSense
    · rw [polarityOf_eq_none h] at foundPolarity
      cases foundPolarity
  next => rfl

theorem takeSetInput_in_range (i : Fin 6) (r : InputRecord) (s : State) :
    takeSetInput (i.val + 1) (functionCode r.function) (0#4 ++ r.mask) (senseCode r.sense) (polarityCode r.polarity) s =
      if storeWriting s then .refused .busy
      else done (fun s => settleConditions s { s with settings := { s.settings with inputs := s.settings.inputs.set i r } }) (fun _ => []) s := by
  rw [takeSetInput, fourPositions_append, inputOf_succ, functionOf_code, senseOf_code, polarityOf_code]

end Sys2Proof.Machine

/-- Settles O43. -/
theorem overrideCommands : Obligations.OverrideCommands := by
  intro s heard answer with_ o
  refine ⟨fun dest mask set => ?_, fun dest m => ?_, fun input function mask sense polarity => ⟨fun set => command_station_eq heard ?_,
    fun clear outside => command_station_eq heard ?_, ?_⟩⟩
  · exact ⟨mask_command_format heard set dest, mask_command_format heard set dest, mask_command_format heard set dest,
      mask_command_format heard set dest, mask_command_format heard set dest, mask_command_format heard set dest⟩
  · exact ⟨mask_command_taken heard m dest, mask_command_taken heard m dest, mask_command_taken heard m dest,
      mask_command_taken heard m dest, mask_command_taken heard m dest, mask_command_taken heard m dest⟩
  · rw [takeSetInput, fourPositions_eq_none set]
    rfl
  · rw [takeSetInput_out_of_range clear outside]
    rfl
  · rintro i r rfl rfl rfl rfl rfl
    refine command_station_eq heard ?_
    rw [takeSetInput_in_range, answered_ite]
    rfl

namespace Sys2Proof.Machine

/-! ### Force and limit (R118 to R121) -/

/-- The level at which an input of a polarity is asserted (R118). -/
def activeLevel (polarity : Polarity) : InputLevel :=
  match polarity with
  | .activeEnergised => .energised
  | .activeDeenergised => .deenergised

theorem assertedLevel_iff (polarity : Polarity) (accepted : Option InputLevel) :
    assertedLevel polarity accepted = true ↔ accepted = some (activeLevel polarity) := by
  rcases polarity with _ | _ <;> rcases accepted with _ | _ | _ <;> decide

theorem levelInputActs_iff (s : State) (function : InputFunction) (p : Fin 4) :
    levelInputActs s function p = true ↔ ∃ i : Fin 6,
      (s.settings.inputs.get i).function = function ∧ (s.settings.inputs.get i).sense = .level ∧
        (s.settings.inputs.get i).mask.getLsbD p.val = true ∧
        (s.overrides.inputs.get i).accepted = some (activeLevel (s.settings.inputs.get i).polarity) := by
  simp only [levelInputActs, List.any_eq_true, List.mem_finRange, true_and, Bool.and_eq_true, decide_eq_true_eq, inputAsserted,
    assertedLevel_iff, and_assoc]

theorem forceActive_iff (s : State) (p : Fin 4) :
    forceActive s p = true ↔ s.overrides.forceLatch.getLsbD p.val = true ∨ levelInputActs s .force p = true := Bool.or_eq_true_iff ..

theorem limitActive_iff (s : State) (p : Fin 4) :
    limitActive s p = true ↔ s.overrides.limitLatch.getLsbD p.val = true ∨ levelInputActs s .limit p = true := Bool.or_eq_true_iff ..

/-- One portal's part in an event that may change force or limit (R121). -/
theorem settlePortal_eq (before after : State) (p : Fin 4) (t : State) :
    settlePortal before after p t =
      let reported := if forceActive before p = false ∧ forceActive after p = true then report .forceOn t else t
      if forceActive before p ≠ forceActive after p ∨ limitActive before p ≠ limitActive after p then recompute p reported else reported := by
  have raised : reportIf (forceRaised before after p) .forceOn t =
      if forceActive before p = false ∧ forceActive after p = true then report .forceOn t else t := by
    unfold forceRaised reportIf
    refine ite_congr ?_ (fun _ => rfl) fun _ => rfl
    rw [Bool.and_eq_true, Bool.not_eq_true', and_comm]
  simp only [settlePortal, raised, conditionsChanged, Bool.or_eq_true, decide_eq_true_eq]

/-! ### The inputs (R118, R120) -/

theorem exec_inputLevelChange_powered {s : State} (powered : s.powered = true) (i : Fin 6) (level : InputLevel) :
    exec (.inputLevelChange i level) s = .next (
      if (s.overrides.inputs.get i).physical = level then s
      else putInput i
        { s.overrides.inputs.get i with physical := level, debounce := debounced level (s.overrides.inputs.get i) } s) := by
  refine congrArg Host.Outcome.next (ite_congr rfl (fun _ => rfl) fun _ => ?_)
  rw [movedInput, powered]
  rfl

theorem debounced_eq (level : InputLevel) (live : InputLive) :
    debounced level live =
      if live.accepted = some level then none
      else match live.debounce with
        | some d => if d.candidate = level then some d else some ⟨level, .running 40⟩
        | none => some ⟨level, .running 40⟩ := by
  unfold debounced
  cases live.debounce <;> rfl

theorem exec_debounceExpiry {s : State} {i : Fin 6} {candidate : InputLevel} {length : Nat} (powered : s.powered = true)
    (running : (s.overrides.inputs.get i).debounce = some ⟨candidate, .running length⟩) :
    exec (.debounceExpiry i) s = .next (changeOverrides (accept i (s.settings.inputs.get i) (s.overrides.inputs.get i) candidate) s) := by
  refine congrArg Host.Outcome.next ((whenPowered_of_powered powered _).trans ?_)
  dsimp only
  rw [running]
  rfl

/-- An accepted level's part in the latches: an asserting change of an EDGE input alone sets them (R120). -/
theorem accept_eq (i : Fin 6) (r : InputRecord) (live : InputLive) (candidate : InputLevel) (o : Overrides) :
    accept i r live candidate o =
      let latches := candidate = activeLevel r.polarity ∧ live.accepted ≠ some (activeLevel r.polarity) ∧ r.sense = .edge
      { o with
        inputs := o.inputs.set i { live with accepted := some candidate, debounce := none }
        forceLatch := if latches ∧ r.function = .force then o.forceLatch ||| r.mask else o.forceLatch
        limitLatch := if latches ∧ r.function = .limit then o.limitLatch ||| r.mask else o.limitLatch } := by
  simp only [accept, Bool.and_eq_true, Bool.not_eq_true', ← Bool.not_eq_true, assertedLevel_iff, Option.some.injEq]
  by_cases asserting : candidate = activeLevel r.polarity ∧ ¬live.accepted = some (activeLevel r.polarity)
  · rw [if_pos asserting]
    cases sense : r.sense <;> cases function : r.function <;> simp [edgeLatches, asserting, sense, function]
  · rw [if_neg asserting]
    simp only [← and_assoc, ne_eq, asserting, false_and, if_false]

end Sys2Proof.Machine

/-- Settles O44. -/
theorem conditionsAndInputs : Obligations.ConditionsAndInputs := by
  refine ⟨⟨fun s p => ?_, fun before after => ?_⟩, fun s i powered => ⟨fun level => ?_, fun candidate length running => ?_⟩⟩
  · intro acting
    have acts (function : InputFunction) : levelInputActs s function p = true ↔ acting function := levelInputActs_iff s function p
    exact ⟨by rw [forceActive_iff, acts], by rw [limitActive_iff, acts]⟩
  · rw [settleConditions]
    simp only [settlePortal_eq]
    rfl
  · rw [exec_inputLevelChange_powered powered, debounced_eq] <;> rfl
  · rw [exec_debounceExpiry powered running, changeOverrides, accept_eq]
    rfl
end

/-! PROOFS. Every well-formed command is read back from its message (O14): fields, then the lists, then the forms of 12.3. -/
section
namespace Sys2Proof

/-! ### Packed fields (12.2, 12.4) -/

theorem append_bytes (g : BitVec 16) : g.extractLsb' 8 8 ++ g.extractLsb' 0 8 = g :=
  (BitVec.extractLsb'_append_extractLsb'_eq_extractLsb' rfl).trans BitVec.extractLsb'_eq_self

theorem mask4_bytes (m : BitVec 32) : mask4 (m.extractLsb' 0 8) (m.extractLsb' 8 8) (m.extractLsb' 16 8) (m.extractLsb' 24 8) = m := by
  have first : m.extractLsb' 24 8 ++ m.extractLsb' 16 8 = m.extractLsb' 16 16 := BitVec.extractLsb'_append_extractLsb'_eq_extractLsb' rfl
  have second : m.extractLsb' 16 16 ++ m.extractLsb' 8 8 = m.extractLsb' 8 24 := BitVec.extractLsb'_append_extractLsb'_eq_extractLsb' rfl
  have third : m.extractLsb' 8 24 ++ m.extractLsb' 0 8 = m.extractLsb' 0 32 := BitVec.extractLsb'_append_extractLsb'_eq_extractLsb' rfl
  rw [mask4, first, second, third, BitVec.extractLsb'_eq_self]

theorem mask6_bytes (m : BitVec 48) :
    mask6 (m.extractLsb' 0 8) (m.extractLsb' 8 8) (m.extractLsb' 16 8) (m.extractLsb' 24 8) (m.extractLsb' 32 8) (m.extractLsb' 40 8) = m := by
  have first : m.extractLsb' 40 8 ++ m.extractLsb' 32 8 = m.extractLsb' 32 16 := BitVec.extractLsb'_append_extractLsb'_eq_extractLsb' rfl
  have second : m.extractLsb' 32 16 ++ m.extractLsb' 24 8 = m.extractLsb' 24 24 := BitVec.extractLsb'_append_extractLsb'_eq_extractLsb' rfl
  have third : m.extractLsb' 24 24 ++ m.extractLsb' 16 8 = m.extractLsb' 16 32 := BitVec.extractLsb'_append_extractLsb'_eq_extractLsb' rfl
  have fourth : m.extractLsb' 16 32 ++ m.extractLsb' 8 8 = m.extractLsb' 8 40 := BitVec.extractLsb'_append_extractLsb'_eq_extractLsb' rfl
  have fifth : m.extractLsb' 8 40 ++ m.extractLsb' 0 8 = m.extractLsb' 0 48 := BitVec.extractLsb'_append_extractLsb'_eq_extractLsb' rfl
  rw [mask6, first, second, third, fourth, fifth, BitVec.extractLsb'_eq_self]

theorem state_packed : ∀ state : Fin 8, ((0#5 ++ BitVec.ofFin (w := 3) state).extractLsb' 0 3).toFin = state := by decide

theorem channel_packed : ∀ (line : Fin 4) (address : Fin 64),
    let b : Byte := BitVec.ofFin (w := 2) line ++ BitVec.ofFin (w := 6) address
    (b.extractLsb' 6 2).toFin = line ∧ (b.extractLsb' 0 6).toFin = address := by decide +kernel

theorem place_packed : ∀ (portal : Fin 4) (stage : Fin 8) (cls : Fin 4),
    let b : Byte := 0#1 ++ BitVec.ofFin (w := 2) portal ++ BitVec.ofFin (w := 3) stage ++ BitVec.ofFin (w := 2) cls
    (b.extractLsb' 5 2).toFin = portal ∧ (b.extractLsb' 2 3).toFin = stage ∧ (b.extractLsb' 0 2).toFin = cls := by decide +kernel

theorem pin_packed (present : Bool) (code : BitVec 10) :
    (BitVec.ofBool present ++ 0#5 ++ code).getLsbD 15 = present ∧ (BitVec.ofBool present ++ 0#5 ++ code).extractLsb' 0 10 = code := by
  refine ⟨?_, BitVec.extractLsb'_append_eq_right⟩
  rw [BitVec.getLsbD_append, BitVec.getLsbD_append]
  simp

/-! ### Lists read back -/

/-- An entry record read back from its 14 bytes (12.4). -/
theorem decodeRecords_encodeRecord {r : EntryRecord} (wf : r.wf = true) (rest : List Byte) :
    decodeRecords (encodeRecord r ++ rest) = (decodeRecords rest).map (r :: ·) := by
  simp only [EntryRecord.wf, Bool.and_eq_true, decide_eq_true_eq] at wf
  obtain ⟨q, age⟩ := wf
  obtain ⟨line, address⟩ := channel_packed r.line r.address
  obtain ⟨portal, stage, cls⟩ := place_packed r.portal r.stage r.cls
  refine congrArg (fun read => (decodeRecords rest).map (read :: ·)) ?_
  rw [decodeRecord, append_bytes, state_packed, line, address, portal, stage, cls, be2_bytes q, be2_bytes age, (pin_packed ..).1,
    (pin_packed ..).2]
  rcases r with ⟨state, line, address, portal, stage, cls, q, age, _ | code⟩ <;> rfl

theorem decodeRecords_encode {records : List EntryRecord} (wf : ∀ r ∈ records, r.wf = true) :
    decodeRecords (records.map encodeRecord).flatten = some records := by
  induction records with
  | nil => rfl
  | cons r records ih =>
    rw [List.map_cons, List.flatten_cons, decodeRecords_encodeRecord (wf r List.mem_cons_self),
      ih fun r member => wf r (List.mem_cons_of_mem _ member)]
    rfl

theorem decodePairs_encode {pairs : List (Nat × Nat)} (fit : ∀ p ∈ pairs, p.1 < 2 ^ 16 ∧ p.2 < 2 ^ 24) :
    decodePairs (pairs.map fun p => to2 p.1 ++ to3 p.2).flatten = some pairs := by
  induction pairs with
  | nil => rfl
  | cons p pairs ih =>
    obtain ⟨first, second⟩ := fit p List.mem_cons_self
    have rest := ih fun p member => fit p (List.mem_cons_of_mem _ member)
    refine (congrArg (Option.map (_ :: ·)) rest).trans ?_
    rw [be2_bytes first, be3_bytes second]
    rfl

theorem decodeRows_encode {rows : List (Nat × Nat)} (fit : ∀ r ∈ rows, r.1 < 2 ^ 16 ∧ r.2 < 2 ^ 16) :
    decodeRows (rows.map fun r => to2 r.1 ++ to2 r.2).flatten = some rows := by
  induction rows with
  | nil => rfl
  | cons r rows ih =>
    obtain ⟨first, second⟩ := fit r List.mem_cons_self
    have rest := ih fun r member => fit r (List.mem_cons_of_mem _ member)
    refine (congrArg (Option.map (_ :: ·)) rest).trans ?_
    rw [be2_bytes first, be2_bytes second]
    rfl

theorem decodePoints_encode {points : List Nat} (fit : ∀ c ∈ points, c < 2 ^ 16) :
    decodePoints (points.map to2).flatten = some points := by
  induction points with
  | nil => rfl
  | cons c points ih =>
    have rest := ih fun c member => fit c (List.mem_cons_of_mem _ member)
    refine (congrArg (Option.map (_ :: ·)) rest).trans ?_
    rw [be2_bytes (fit c List.mem_cons_self)]
    rfl

/-! ### The forms of 12.3 -/

section Forms

variable (d : Dest)

theorem decodeSlot_encode {f : Nat → Instr} {n : Nat} (fit : n < 2 ^ 16) : decodeSlot f d (to2 n) = some (f n) :=
  congrArg (some ∘ f) (be2_bytes fit)

theorem decodeByte_encode {f : Nat → Instr} {n : Nat} (fit : n < 2 ^ 8) : decodeByte f d (to1 n) = some (f n) :=
  congrArg (some ∘ f) (toNat_byte fit)

theorem decodeBytes_encode {f : Nat → Nat → Instr} {m n : Nat} (first : m < 2 ^ 8) (second : n < 2 ^ 8) :
    decodeBytes f d (to1 m ++ to1 n) = some (f m n) :=
  congrArg some (congrArg₂ f (toNat_byte first) (toNat_byte second))

theorem decodeEventMask_encode {f : BitVec 48 → Instr} (m : BitVec 48) : decodeEventMask f d (maskBytes6 m) = some (f m) :=
  congrArg (some ∘ f) (mask6_bytes m)

theorem decodeEnter_encode {slot line address portal stage cls q age pin : Nat} (slotFits : slot < 2 ^ 16) (lineFits : line < 2 ^ 8)
    (addressFits : address < 2 ^ 8) (portalFits : portal < 2 ^ 8) (stageFits : stage < 2 ^ 8) (clsFits : cls < 2 ^ 8) (qFits : q < 2 ^ 16)
    (ageFits : age < 2 ^ 16) (pinFits : pin < 2 ^ 16) :
    decodeEnter d (to2 slot ++ to1 line ++ to1 address ++ to1 portal ++ to1 stage ++ to1 cls ++ to2 q ++ to2 age ++ to2 pin) =
      some (.enter slot line address portal stage cls q age pin) := by
  simp only [to1, to2, List.cons_append, List.nil_append, decodeEnter]
  rw [be2_bytes slotFits, toNat_byte lineFits, toNat_byte addressFits, toNat_byte portalFits, toNat_byte stageFits, toNat_byte clsFits,
    be2_bytes qFits, be2_bytes ageFits, be2_bytes pinFits]

theorem decodeAmend_encode {slot portal stage cls q age line address : Nat} {present : Byte} (slotFits : slot < 2 ^ 16)
    (portalFits : portal < 2 ^ 8) (stageFits : stage < 2 ^ 8) (clsFits : cls < 2 ^ 8) (qFits : q < 2 ^ 16) (ageFits : age < 2 ^ 16)
    (lineFits : line < 2 ^ 8) (addressFits : address < 2 ^ 8) :
    decodeAmend d (to2 slot ++ [present] ++ to1 portal ++ to1 stage ++ to1 cls ++ to2 q ++ to2 age ++ to1 line ++ to1 address) =
      some (.amend slot present portal stage cls q age line address) := by
  simp only [to1, to2, List.cons_append, List.nil_append, decodeAmend]
  rw [be2_bytes slotFits, toNat_byte portalFits, toNat_byte stageFits, toNat_byte clsFits, be2_bytes qFits, be2_bytes ageFits,
    toNat_byte lineFits, toNat_byte addressFits]

theorem decodeSetChannel_encode {channel offset gain low high : Nat} (channelFits : channel < 2 ^ 8) (offsetFits : offset < 2 ^ 16)
    (gainFits : gain < 2 ^ 16) (lowFits : low < 2 ^ 24) (highFits : high < 2 ^ 24) :
    decodeSetChannel d (to1 channel ++ to2 offset ++ to2 gain ++ to3 low ++ to3 high) = some (.setChannel channel offset gain low high) := by
  simp only [to1, to2, to3, List.cons_append, List.nil_append, decodeSetChannel]
  rw [toNat_byte channelFits, be2_bytes offsetFits, be2_bytes gainFits, be3_bytes lowFits, be3_bytes highFits]

theorem decodeSetPortal_encode {portal : Nat} {c : PortalFields} (number : portal < 2 ^ 8) (wf : c.wf = true) :
    decodeSetPortal d (to1 portal ++ to1 c.primary ++ to1 c.secondary ++ to1 c.k ++ to3 c.lthMin ++ to3 c.lthCap ++ to3 c.lthFallback
      ++ to2 c.w ++ to2 c.up ++ to2 c.dn ++ to1 c.deadBand ++ to1 c.fallHoldLength ++ to1 c.staleLimit ++ to1 c.holdLimit
      ++ to1 c.recoverCount ++ to2 c.disagreement ++ to2 c.uMin ++ to2 c.updateInterval) = some (.setPortal portal c) := by
  simp only [PortalFields.wf, Bool.and_eq_true, decide_eq_true_eq] at wf
  obtain ⟨⟨⟨⟨⟨⟨⟨⟨⟨⟨⟨⟨⟨⟨⟨⟨primary, secondary⟩, k⟩, low⟩, cap⟩, fallback⟩, w⟩, up⟩, dn⟩, dead⟩, hold⟩, stale⟩, holds⟩, recover⟩, disagree⟩,
    uMin⟩, interval⟩ := wf
  simp only [to1, to2, to3, List.cons_append, List.nil_append, decodeSetPortal]
  rw [toNat_byte number, toNat_byte primary, toNat_byte secondary, toNat_byte k, be3_bytes low, be3_bytes cap, be3_bytes fallback,
    be2_bytes w, be2_bytes up, be2_bytes dn, toNat_byte dead, toNat_byte hold, toNat_byte stale, toNat_byte holds, toNat_byte recover,
    be2_bytes disagree, be2_bytes uMin, be2_bytes interval]

theorem decodeSetScan_encode {positions : List Nat} {interval : Nat} (whole : positions.length = 8) (fit : ∀ p ∈ positions, p < 2 ^ 8)
    (ticks : interval < 2 ^ 16) :
    decodeSetScan d ((positions.map to1).flatten ++ to2 interval) = some (.setScan positions interval) := by
  match positions, whole with
  | [p0, p1, p2, p3, p4, p5, p6, p7], _ =>
    simp only [List.forall_mem_cons] at fit
    obtain ⟨h0, h1, h2, h3, h4, h5, h6, h7, -⟩ := fit
    refine congrArg some ?_
    rw [be2_bytes ticks]
    refine congrArg (Instr.setScan · interval) ?_
    simp only [List.map_cons, List.map_nil]
    rw [toNat_byte h0, toNat_byte h1, toNat_byte h2, toNat_byte h3, toNat_byte h4, toNat_byte h5, toNat_byte h6, toNat_byte h7]

theorem decodeSetStages_encode {portal count : Nat} {pairs : List (Nat × Nat)} (number : portal < 2 ^ 8) (counted : count < 2 ^ 8)
    (whole : pairs.length = count) (fit : ∀ p ∈ pairs, p.1 < 2 ^ 16 ∧ p.2 < 2 ^ 24) :
    decodeSetStages d (to1 portal ++ to1 count ++ (pairs.map fun p => to2 p.1 ++ to3 p.2).flatten) = some (.setStages portal count pairs) := by
  change decodeSetStages d (BitVec.ofNat 8 portal :: BitVec.ofNat 8 count :: (pairs.map fun p => to2 p.1 ++ to3 p.2).flatten) = _
  rw [decodeSetStages, decodePairs_encode fit, toNat_byte number, toNat_byte counted]
  exact if_pos whole

theorem decodeSetMaintenance_encode {count : Nat} {rows : List (Nat × Nat)} (counted : count < 2 ^ 8) (whole : rows.length = count)
    (fit : ∀ r ∈ rows, r.1 < 2 ^ 16 ∧ r.2 < 2 ^ 16) :
    decodeSetMaintenance d (to1 count ++ (rows.map fun r => to2 r.1 ++ to2 r.2).flatten) = some (.setMaintenance count rows) := by
  change decodeSetMaintenance d (BitVec.ofNat 8 count :: (rows.map fun r => to2 r.1 ++ to2 r.2).flatten) = _
  rw [decodeSetMaintenance, decodeRows_encode fit, toNat_byte counted]
  exact if_pos whole

theorem decodeSetCurve_encode {cls : Nat} {points : List Nat} (number : cls < 2 ^ 8) (whole : points.length = 17)
    (fit : ∀ c ∈ points, c < 2 ^ 16) : decodeSetCurve d (to1 cls ++ (points.map to2).flatten) = some (.setCurve cls points) := by
  change decodeSetCurve d (BitVec.ofNat 8 cls :: (points.map to2).flatten) = _
  rw [decodeSetCurve, decodePoints_encode fit, toNat_byte number]
  exact if_pos whole

end Forms

end Sys2Proof

open Sys2Proof

/-- Settles O14: the forms of 12.3, one by one. -/
theorem messageRoundTrip : Obligations.MessageRoundTrip := by
  intro c dest content wf message
  cases c <;> cases message
  all_goals simp only [Instr.wf, Bool.and_eq_true, decide_eq_true_eq, List.all_eq_true] at wf
  case suspend | resume | retire | unpin | locate | lookup => exact decodeSlot_encode .station wf
  case readNext | readChannel | setAuto | readPortal | readTables | readLine => exact decodeByte_encode .station wf
  case find | setRole | setLink => exact decodeBytes_encode .station wf.1 wf.2
  case setMask | clearEvents => exact decodeEventMask_encode .station _
  case readMarks | readInputs | readStatus | store | restart => rfl
  case force | unforce | limit | unlimit | freeze | unfreeze => rfl
  case clearMarks mask => exact congrArg (some ∘ Instr.clearMarks) (mask4_bytes mask)
  case enter =>
    obtain ⟨⟨⟨⟨⟨⟨⟨⟨slot, line⟩, address⟩, portal⟩, stage⟩, cls⟩, q⟩, age⟩, pin⟩ := wf
    exact decodeEnter_encode .station slot line address portal stage cls q age pin
  case amend =>
    obtain ⟨⟨⟨⟨⟨⟨⟨slot, portal⟩, stage⟩, cls⟩, q⟩, age⟩, line⟩, address⟩ := wf
    exact decodeAmend_encode .station slot portal stage cls q age line address
  case pin => exact congrArg some (by rw [be2_bytes wf.1, be2_bytes wf.2])
  case openWindow =>
    obtain ⟨⟨first, last⟩, direction⟩ := wf
    exact congrArg some (by rw [be2_bytes first, be2_bytes last, toNat_byte direction])
  case writeNext records =>
    obtain ⟨⟨low, high⟩, fit⟩ := wf
    rw [decodeMessage_writeNext, decodeWriteNext, decodeRecords_encode fit]
    exact if_pos ⟨low, high⟩
  case setChannel =>
    obtain ⟨⟨⟨⟨channel, offset⟩, gain⟩, low⟩, high⟩ := wf
    exact decodeSetChannel_encode .station channel offset gain low high
  case setScan positions interval =>
    obtain ⟨⟨whole, fit⟩, ticks⟩ := wf
    exact decodeSetScan_encode .station whole fit ticks
  case setPortal portal fields => exact (decodeMessage_setPortal ..).trans (decodeSetPortal_encode .station wf.1 wf.2)
  case setManual => exact congrArg some (by rw [toNat_byte wf.1, be3_bytes wf.2])
  case setStages portal count pairs =>
    obtain ⟨⟨⟨number, whole⟩, short⟩, fit⟩ := wf
    exact decodeSetStages_encode .station number (by omega) whole fit
  case setCompute =>
    obtain ⟨⟨mode, thermal⟩, ceiling⟩ := wf
    exact congrArg some (by rw [toNat_byte mode, be2_bytes thermal, be2_bytes ceiling])
  case setMaintenance count rows =>
    obtain ⟨⟨whole, short⟩, fit⟩ := wf
    exact decodeSetMaintenance_encode .station (by omega) whole fit
  case setCurve cls points =>
    obtain ⟨⟨number, whole⟩, fit⟩ := wf
    exact decodeSetCurve_encode .station number whole fit
  case setInput =>
    obtain ⟨⟨⟨input, function⟩, sense⟩, polarity⟩ := wf
    exact congrArg some (by rw [toNat_byte input, toNat_byte function, toNat_byte sense, toNat_byte polarity])
  case setLines => exact congrArg some (by rw [toNat_byte wf])
end

/-! PROOFS. The link unit: characters received (O7), messages not carried out (O12), a message received character by character (O13),
responses and the effects they hold back (O15), and the bits of a character (O16). -/
section
namespace Sys2Proof

namespace Laws.MessageFits

/-- Every well-formed command's message fits a length character (8.3, R168). -/
theorem statement_holds : ∀ c : Instr, Statement c
  | .fullReset | .ageTickExpiry | .scanTimerExpiry | .conversionComplete _ | .updateTimerExpiry _ | .inputLevelChange _ _
  | .debounceExpiry _ | .forwardFrameEnd _ | .contention _ | .replyOutcome _ _ | .transactionEnd _ | .faultWaitExpiry _ | .probeEnd _
  | .addressCharacter _ | .dataCharacter _ | .gapTimerExpiry | .responseStart | .responseEnd | .storeWriteComplete _
  | .spoiledCharacter | .backwardFrameStart _ _ | .powerLoss => of_event rfl
  | .enter _ _ _ _ _ _ _ _ _ => enter _ _ _ _ _ _ _ _ _
  | .amend _ _ _ _ _ _ _ _ _ => amend _ _ _ _ _ _ _ _ _
  | .suspend _ => suspend _
  | .resume _ => resume _
  | .retire _ => retire _
  | .pin _ _ => pin _ _
  | .unpin _ => unpin _
  | .locate _ => locate _
  | .lookup _ => lookup _
  | .find _ _ => find _ _
  | .openWindow _ _ _ => openWindow _ _ _
  | .writeNext _ => writeNext _
  | .readNext _ => readNext _
  | .readMarks => readMarks
  | .clearMarks _ => clearMarks _
  | .setChannel _ _ _ _ _ => setChannel _ _ _ _ _
  | .setScan _ _ => setScan _ _
  | .readChannel _ => readChannel _
  | .setPortal _ _ => setPortal _ _
  | .setRole _ _ => setRole _ _
  | .setManual _ _ => setManual _ _
  | .setAuto _ => setAuto _
  | .readPortal _ => readPortal _
  | .setStages _ _ _ => setStages _ _ _
  | .setCompute _ _ _ => setCompute _ _ _
  | .setMaintenance _ _ => setMaintenance _ _
  | .setCurve _ _ => setCurve _ _
  | .readTables _ => readTables _
  | .force _ _ => force _ _
  | .unforce _ _ => unforce _ _
  | .limit _ _ => limit _ _
  | .unlimit _ _ => unlimit _ _
  | .freeze _ _ => freeze _ _
  | .unfreeze _ _ => unfreeze _ _
  | .setInput _ _ _ _ _ => setInput _ _ _ _ _
  | .readInputs => readInputs
  | .setLines _ _ => setLines _ _
  | .readLine _ => readLine _
  | .setLink _ _ => setLink _ _
  | .setMask _ => setMask _
  | .clearEvents _ => clearEvents _
  | .readStatus => readStatus
  | .store => store
  | .restart => restart

end Laws.MessageFits

namespace Machine

/-! ### Characters (R157, R159, R160) -/

/-- An address character that a hearing part reads is judged by its value (R159, R167). -/
theorem addressReceived_of_hears {s : State} (heard : hears s = true) (value : Byte) : addressReceived value s = judge value s := by
  rw [hears, Bool.and_eq_true] at heard
  unfold addressReceived
  rcases receive : s.link.receive with _ | _ | _ | ⟨_, _ | _ | _⟩ | _ <;> simp_all

theorem exec_addressCharacter {s : State} (powered : s.powered = true) (value : Byte) :
    exec (.addressCharacter value) s = .next (addressReceived value s) :=
  congrArg Host.Outcome.next (whenPowered_of_powered powered _)

theorem exec_dataCharacter {s : State} (powered : s.powered = true) (value : Byte) :
    exec (.dataCharacter value) s = .next (dataReceived value s) :=
  congrArg Host.Outcome.next (whenPowered_of_powered powered _)

theorem dataReceived_length {s : State} {dest : Dest} (receive : s.link.receive = .length dest) (value : Byte) :
    dataReceived value s =
      if 2 ≤ value.toNat ∧ value.toNat ≤ 250 then withReceive (.body dest value.toNat []) s else withReceive .asleep s := by
  rw [dataReceived, receive]

theorem dataReceived_body {s : State} {dest : Dest} {n : Nat} {got : List Byte} (receive : s.link.receive = .body dest n got)
    (value : Byte) :
    dataReceived value s =
      if got.length + 1 < n then withReceive (.body dest n (got ++ [value])) s else bodyReceived dest n (got ++ [value]) s := by
  rw [dataReceived, receive]

/-! ### A message's check and its dispatch (R160, R161, R164, R168) -/

theorem byteSum_append_check (bytes : List Byte) : byteSum (bytes ++ [-(byteSum bytes)]) = 0#8 := by
  rw [byteSum, List.foldl_append]
  exact BitVec.add_right_neg _

theorem bodyReceived_append (dest : Dest) (n : Nat) (content : List Byte) (check : Byte) (s : State) :
    bodyReceived dest n (content ++ [check]) s =
      if byteSum (BitVec.ofNat 8 n :: (content ++ [check])) = 0#8 then dispatch dest content s else withReceive .asleep s := by
  rw [bodyReceived, List.dropLast_concat]

theorem mayBroadcast_eq (content : List Byte) : mayBroadcast content = content.head?.any broadcastCode := by
  cases content <;> rfl

theorem dispatch_broadcast_of_not {content : List Byte} (unfit : mayBroadcast content = false) (s : State) :
    dispatch .broadcast content s = withReceive .asleep s :=
  if_neg (by rw [unfit]; decide)

theorem messageOwner_of_decodes {dest : Dest} {content : List Byte} {c : Instr} (decodes : decodeMessage dest content = some c) (s : State) :
    messageOwner dest content s = owner c s := by
  rw [messageOwner, decodes]

theorem messageOwner_of_unread {dest : Dest} {content : List Byte} (unread : decodeMessage dest content = none) (s : State) :
    messageOwner dest content s = .refused .format := by
  rw [messageOwner, unread]

/-- A command's message is dispatched to its owner (R162, R168). -/
theorem dispatch_of_decodes {dest : Dest} {content : List Byte} {c : Instr} (decodes : decodeMessage dest content = some c)
    (fit : dest = .broadcast → content.head?.any broadcastCode = true) (s : State) : dispatch dest content s = deliver dest (owner c) s := by
  rw [← funext (messageOwner_of_decodes decodes)]
  cases dest with
  | station => rfl
  | broadcast => exact if_pos ((mayBroadcast_eq content).trans (fit rfl))

/-- What a delivered command leaves does not depend on the link unit it meets. -/
theorem deliver_withLink (dest : Dest) (c : Instr) (x : Link) (s : State) :
    deliver dest (owner c) (withLink x s) = deliver dest (owner c) s := by
  have same := owner_withLink x c s
  cases verdict : owner c s with
  | refused why =>
    rw [verdict] at same
    rw [deliver_refused verdict, deliver_refused (why := why) same]
    rfl
  | taken after data held =>
    rw [verdict] at same
    rw [deliver_taken verdict, deliver_taken (after := withLink x after) (data := data) (held := held) same]
    rfl

/-! ### A whole message, character by character -/

theorem feed_cons_of_next {c : Instr} {s t : State} (stepped : exec c s = .next t) (rest : List Instr) :
    feed (c :: rest) s = feed rest t := by
  rw [feed, stepped]

/-- The rest of a body, received one character after another, comes to its check with nothing but the link unit changed. -/
theorem feed_body {s : State} (powered : s.powered = true) (dest : Dest) (n : Nat) {rest : List Byte} (more : rest ≠ []) :
    ∀ got : List Byte, got.length + rest.length = n →
      ∃ x, feed (rest.map .dataCharacter) (withReceive (.body dest n got) s) = .next (bodyReceived dest n (got ++ rest) (withLink x s)) := by
  induction rest with
  | nil => exact absurd rfl more
  | cons value rest ih =>
    intro got whole
    rw [List.length_cons] at whole
    have received := exec_dataCharacter (s := withReceive (.body dest n got) s) powered value
    rw [dataReceived_body rfl] at received
    rcases rest with _ | ⟨next, rest⟩
    · rw [if_neg (by rw [← whole]; simp)] at received
      exact ⟨_, feed_cons_of_next received []⟩
    · rw [if_pos (by rw [← whole, List.length_cons]; omega)] at received
      obtain ⟨x, fed⟩ := ih (List.cons_ne_nil _ _) (got ++ [value]) (by rw [← whole, List.length_append, List.length_singleton]; omega)
      rw [List.append_assoc] at fed
      exact ⟨x, (feed_cons_of_next received _).trans fed⟩

/-- A message's own address character wakes the link unit for it (R159). -/
theorem judge_addressOf {s : State} (low : 1 ≤ s.settings.station) (high : s.settings.station ≤ 31) (dest : Dest) :
    judge (addressOf s.settings.station dest) s = withReceive (.length dest) s := by
  cases dest with
  | broadcast => rfl
  | station =>
    have value : (addressOf s.settings.station .station).toNat = s.settings.station := by
      rw [addressOf, BitVec.toNat_ofNat]
      omega
    have nonzero : addressOf s.settings.station .station ≠ 0#8 := fun zero => by
      rw [zero] at value
      exact absurd value (by rw [BitVec.toNat_ofNat]; omega)
    rw [judge, if_neg nonzero, if_pos value]

/-! ### RESTART's effect (R171, R184) -/

/-- No flag, no assertion. -/
theorem faultOutputOf_zero (mask : BitVec 48) : faultOutputOf 0#48 mask = .conducting := by
  rw [faultOutputOf, if_pos BitVec.zero_and]

theorem restartNow_eq (s : State) :
    restartNow s = considerAll
      { powered := true
        settings := s.settings
        roster := ⟨s.roster.slots.map Entry.atReset, BitVec.allOnes 32, none, .running 360000⟩
        scanner := ⟨Tbl.fill 8 ⟨none, .none, 0#8⟩, none, .running s.settings.scanInterval⟩
        portals := s.settings.portals.map (portalAtReset s.settings.compute.mode)
        overrides := ⟨s.overrides.inputs.map fun i => ⟨i.physical, none, some ⟨i.physical, .running 40⟩⟩, 0#4, 0#4, 0#4⟩
        lines := Tbl.fill 4 LineUnit.initial
        link := asleep
        events := ⟨0#48, .conducting⟩
        store := { s.store with state := .idle }
        pending := s.pending } := by
  rw [restartNow, reinitialise_eq, faultOutputOf_zero]

/-! ### Bits and samples (R157) -/

theorem take_drop_flatten_sent (body : List Byte) (tail : List Bool) :
    ∀ {i : Nat} {value : Byte}, body[i]? = some value →
      (((body.map (sentCharacter false)).flatten ++ tail).drop (11 * i)).take 11 = sentCharacter false value := by
  induction body with
  | nil => intro i value at_i; simp at at_i
  | cons first body ih =>
    intro i value at_i
    rw [List.map_cons, List.flatten_cons, List.append_assoc]
    cases i with
    | zero =>
      cases at_i
      exact List.take_left' (length_sentCharacter ..)
    | succ i =>
      rw [show 11 * (i + 1) = (sentCharacter false first).length + 11 * i by rw [length_sentCharacter]; omega, List.drop_length_add_append]
      exact ih at_i

theorem majority_iff (b : Samples) : majority b = true ↔ 2 ≤ b.first.toNat + b.second.toNat + b.third.toNat := by
  rcases b with ⟨_ | _, _ | _, _ | _⟩ <;> decide

theorem agrees_iff (b : Samples) : agrees b = true ↔ b.first = b.second ∧ b.second = b.third := by
  rw [agrees, Bool.and_eq_true, decide_eq_true_eq, decide_eq_true_eq]

theorem testBit_leastFirst (bits : List Bool) : ∀ i, (bits.foldr (fun (b : Bool) acc => b.toNat + 2 * acc) 0).testBit i = bits[i]?.getD false := by
  induction bits with
  | nil => intro i; simp
  | cons b bits ih =>
    intro i
    rw [List.foldr_cons]
    cases i with
    | zero => cases b <;> simp [Nat.testBit_zero]
    | succ i =>
      rw [Nat.testBit_succ, show ∀ rest, (b.toNat + 2 * rest) / 2 = rest from fun rest => by cases b <;> simp <;> omega, ih,
        List.getElem?_cons_succ]

theorem getLsbD_dataBits (data : Tbl Samples 8) (i : Fin 8) : (dataBits (data.cells.map majority)).getLsbD i.val = majority (data.get i) := by
  rw [dataBits, BitVec.getLsbD_ofNat, testBit_leastFirst, Tbl.cells_eq]
  simp

theorem cells_all_agree_iff (data : Tbl Samples 8) : data.cells.all agrees = true ↔ ∀ i, agrees (data.get i) = true := by
  rw [Tbl.cells_eq, List.all_eq_true]
  simp

/-- Every bit's samples agree. -/
def noiseless (start : Samples) (data : Tbl Samples 8) (markBit stop : Samples) : Bool :=
  agrees start && data.cells.all agrees && agrees markBit && agrees stop

theorem noiseless_iff (start : Samples) (data : Tbl Samples 8) (markBit stop : Samples) :
    noiseless start data markBit stop = true ↔
      agrees start = true ∧ (∀ i, agrees (data.get i) = true) ∧ agrees markBit = true ∧ agrees stop = true := by
  simp only [noiseless, Bool.and_eq_true, cells_all_agree_iff, and_assoc]

theorem characterEvent_eq (start : Samples) (data : Tbl Samples 8) (markBit stop : Samples) :
    characterEvent start data markBit stop =
      if majority start = true then none
      else if noiseless start data markBit stop = true ∧ majority stop = true then
        some (if majority markBit = true then .addressCharacter (dataBits (data.cells.map majority))
          else .dataCharacter (dataBits (data.cells.map majority)))
      else some .spoiledCharacter := by
  rw [characterEvent]
  change (if _ then _ else if (!noiseless start data markBit stop || !majority stop) = true then _ else _) = _
  cases majority start <;> cases noiseless start data markBit stop <;> cases majority stop <;> cases majority markBit <;> rfl

end Machine

end Sys2Proof

open Sys2Proof Sys2Proof.Machine

/-- Settles O7: the receive states, one by one. -/
theorem charactersReceived : Obligations.CharactersReceived := by
  refine ⟨fun s value station => ⟨fun heard => ?_, fun r held sending => ?_⟩, fun s value powered => ⟨fun dest receive => ?_,
    fun dest n got receive more => ?_, fun receive => ?_, fun r held receive => ?_, ?_, fun running => ?_⟩⟩
  · rw [exec_addressCharacter (powered_of_hears heard), addressReceived_of_hears heard, judge]
    split_ifs <;> rfl
  · refine congrArg Host.Outcome.next ?_
    unfold whenPowered addressReceived
    rw [sending]
    exact ite_self s
  · rw [exec_dataCharacter powered, dataReceived_length receive]
    split_ifs <;> rfl
  · rw [exec_dataCharacter powered, dataReceived_body receive, if_pos more]
    rfl
  · rw [exec_dataCharacter powered, dataReceived, receive]
  · rw [exec_dataCharacter powered, dataReceived]
    rcases receive with receive | receive <;> rw [receive]
  · refine congrArg Host.Outcome.next ((whenPowered_of_powered powered _).trans ?_)
    cases s.link.receive <;> rfl
  · exact congrArg Host.Outcome.next ((whenPowered_of_powered powered _).trans (if_pos running))

/-- Settles O12. -/
theorem messageNotCarriedOut : Obligations.MessageNotCarriedOut := by
  intro s dest n got value powered receive last
  have received : exec (.dataCharacter value) s = .next (bodyReceived dest n (got ++ [value]) s) := by
    rw [exec_dataCharacter powered, dataReceived_body receive, if_neg (by omega)]
  rw [bodyReceived_append] at received
  refine ⟨fun bad => ?_, fun broadcast other => ?_, fun good station unread => ?_⟩
  · rw [received, if_neg bad]
    rfl
  · have unfit : mayBroadcast got = false := by
      rw [mayBroadcast_eq]
      rcases got with _ | ⟨code, got⟩
      · rfl
      · have outside := other code rfl
        refine Bool.eq_false_iff.mpr fun fit => ?_
        simp only [List.head?_cons, Option.any_some, broadcastCode, Bool.and_eq_true, decide_eq_true_eq] at fit
        omega
    rw [received, broadcast, dispatch_broadcast_of_not unfit, ite_self]
    rfl
  · rw [received, if_pos good, station]
    exact congrArg Host.Outcome.next (deliver_refused (messageOwner_of_unread unread s))

/-- Settles O13: the address character wakes the link unit, the length opens the body, and the check character dispatches the command that
the message reads back to (O14). -/
theorem charactersCarryCommand : Obligations.CharactersCarryCommand := by
  intro c dest content s wf encodes heard low high
  obtain ⟨nonempty, short, fit⟩ := Laws.MessageFits.statement_holds c wf dest content encodes
  have powered := powered_of_hears heard
  have woken : exec (.addressCharacter (addressOf s.settings.station dest)) s = .next (withReceive (.length dest) s) := by
    rw [exec_addressCharacter powered, addressReceived_of_hears heard, judge_addressOf low high]
  have length : (BitVec.ofNat 8 (content.length + 1)).toNat = content.length + 1 := by
    rw [BitVec.toNat_ofNat]
    omega
  have opened : exec (.dataCharacter (BitVec.ofNat 8 (content.length + 1))) (withReceive (.length dest) s) =
      .next (withReceive (.body dest (content.length + 1) []) s) := by
    rw [exec_dataCharacter (s := withReceive (.length dest) s) powered, dataReceived_length rfl, length, if_pos ⟨by omega, by omega⟩]
    rfl
  obtain ⟨x, fed⟩ := feed_body powered dest (content.length + 1)
    (rest := content ++ [-(byteSum (BitVec.ofNat 8 (content.length + 1) :: content))]) (by simp) [] (by simp)
  refine (feed_cons_of_next woken _).trans ((feed_cons_of_next opened _).trans (fed.trans ?_))
  rw [List.nil_append, bodyReceived_append, ← List.cons_append, byteSum_append_check, if_pos rfl,
    dispatch_of_decodes (messageRoundTrip c dest content wf encodes) fit, deliver_withLink, exec_of_encodes encodes, command_of_hears heard]

/-- Settles O15. -/
theorem responsesAndHeldEffects : Obligations.ResponsesAndHeldEffects := by
  refine ⟨fun s r powered => ⟨fun held receive => ?_, fun receive => ?_, fun station baud => ⟨fun receive => ?_, fun receive value => ?_⟩⟩,
    fun s heard => ⟨fun station baud => command_station_eq heard ?_, command_station_eq heard ?_⟩,
    fun s r powered => ⟨fun receive => ?_, fun receive value => ?_⟩⟩
  · refine congrArg Host.Outcome.next ((whenPowered_of_powered powered _).trans ?_)
    simp only [receive]
    rfl
  · refine congrArg Host.Outcome.next ((whenPowered_of_powered powered _).trans ?_)
    simp only [receive]
    rfl
  · refine congrArg Host.Outcome.next ((whenPowered_of_powered powered _).trans ?_)
    simp only [receive]
    rfl
  · rw [exec_addressCharacter powered, addressReceived, receive]
    exact congrArg Host.Outcome.next rfl
  · rw [takeSetLink]
    cases baudOf baud with
    | none => rfl
    | some rate =>
      simp only [answered_ite]
      rfl
  · rw [takeRestart, answered_ite]
    rfl
  · refine congrArg Host.Outcome.next ((whenPowered_of_powered powered _).trans ?_)
    simp only [receive]
    exact restartNow_eq s
  · rw [exec_addressCharacter powered, addressReceived, receive]
    exact congrArg Host.Outcome.next (restartNow_eq s)

/-- Settles O16. -/
theorem characterBits : Obligations.CharacterBits := by
  refine ⟨fun markBit value => rfl, fun s => ⟨fun r held sending => ?_, fun unsent => ?_⟩, fun start data markBit stop => ?_⟩
  · have driven : pairDriven s = sentCharacter true r.address ++ ((r.body.map (sentCharacter false)).flatten ++ []) := by
      rw [pairDriven, sending, List.append_nil]
      exact sentBits.eq_1 r
    refine ⟨?_, ?_, fun i value at_i => ?_⟩
    · rw [pairDriven, sending]
      exact length_sentBits r
    · rw [driven]
      exact List.take_left' (length_sentCharacter ..)
    · rw [driven, show 11 * (i + 1) = (sentCharacter true r.address).length + 11 * i by rw [length_sentCharacter]; omega,
        List.drop_length_add_append]
      exact take_drop_flatten_sent r.body [] at_i
  · rw [pairDriven]
    cases receive : s.link.receive with
    | sending r held => exact absurd receive (unsent r held)
    | _ => rfl
  · simp only [← majority_iff, ← agrees_iff, characterEvent_eq]
    have clear := noiseless_iff start data markBit stop
    refine ⟨fun begun => if_pos begun, fun begun spoiled => ?_, fun begun silent ended =>
      ⟨dataBits (data.cells.map majority), fun i => by rw [getLsbD_dataBits], fun marked => ?_, fun unmarked => ?_⟩⟩
    · rw [if_neg begun, if_neg]
      rintro ⟨quiet, ended⟩
      obtain ⟨h1, h2, h3, h4⟩ := clear.mp quiet
      rcases spoiled with (noisy | ⟨i, noisy⟩ | noisy | noisy) | late
      · exact noisy h1
      · exact noisy (h2 i)
      · exact noisy h3
      · exact noisy h4
      · exact late ended
    all_goals
      simp only [not_or, not_exists, not_not] at silent
      rw [if_neg begun, if_pos ⟨clear.mpr silent, ended⟩]
    · rw [if_pos marked]
    · rw [if_neg unmarked]
end

/-! PROOFS. The line units: the next transaction (O49) and the phases of a transaction (O46). -/
section
namespace Sys2Proof.Machine

open Sys2Proof

/-! ### The next transaction (R140, R141) -/

theorem quiet_iff (s : State) (l : Fin 4) :
    quiet s l = true ↔ s.settings.enables.get l = true ∧ (s.lines.get l).faulted = false ∧ (s.lines.get l).inFlight = none ∧
      (s.lines.get l).aborting = false := by
  simp only [quiet, Bool.and_eq_true, lineUsable_iff, Option.isNone_iff_eq_none, Bool.not_eq_true', and_assoc]

/-- The slots in the order in which a poll is sought: from the cursor upward, wrapping (R141). -/
def pollOrder (cursor : Fin 256) : List (Fin 256) := (List.finRange 256).rotate cursor.val

theorem nextPoll_eq (s : State) (l : Fin 4) :
    nextPoll s l =
      ((pollOrder (s.lines.get l).cursor).find? fun k => pollable l (entryAt s k)).map fun k => (k, entryAt s k) := by
  have inReach : (s.lines.get l).cursor.val ≤ s.roster.slots.indexed.length := by
    rw [Tbl.indexed_eq, List.length_map, List.length_finRange]
    exact Nat.le_of_lt (s.lines.get l).cursor.isLt
  rw [nextPoll, ← List.rotate_eq_drop_append_take inReach, Tbl.indexed_eq, ← List.map_rotate, List.find?_map]
  rfl

theorem getElem?_pollOrder (cursor : Fin 256) (i : Fin 256) : (pollOrder cursor)[i.val]? = some (i + cursor) := by
  have inOrder : i.val < (pollOrder cursor).length := by simp [pollOrder]
  rw [List.getElem?_eq_getElem inOrder]
  refine congrArg some (Fin.ext ?_)
  simp only [pollOrder, List.getElem_rotate, List.getElem_finRange, List.length_finRange, Fin.val_add, Fin.val_cast]

/-- The search finds the slot that lies nearest after the cursor (R141). -/
theorem find?_pollOrder_eq_some_iff (cursor k : Fin 256) (p : Fin 256 → Bool) :
    (pollOrder cursor).find? p = some k ↔ p k = true ∧ ∀ j, p j = true → k - cursor ≤ j - cursor := by
  have position (x : Fin 256) : (pollOrder cursor)[(x - cursor).val]? = some x :=
    (getElem?_pollOrder cursor _).trans (congrArg some (sub_add_cancel x cursor))
  rw [List.find?_eq_some_iff_getElem]
  refine and_congr_right fun _ => ⟨?_, fun first => ?_⟩
  · rintro ⟨i, inOrder, at_i, before⟩ j found
    have small : i < 256 := by simpa [pollOrder] using inOrder
    have offset : k - cursor = ⟨i, small⟩ := by
      have here := (getElem?_pollOrder cursor ⟨i, small⟩).symm.trans ((List.getElem?_eq_getElem inOrder).trans (congrArg some at_i))
      rw [← Option.some.inj here, add_sub_cancel_right]
    refine Fin.not_lt.mp fun sooner => ?_
    rw [offset, Fin.lt_def] at sooner
    have there := position j
    rw [List.getElem?_eq_some_iff] at there
    obtain ⟨_, at_j⟩ := there
    have absent := before (j - cursor).val sooner
    rw [at_j, found] at absent
    cases absent
  · obtain ⟨inOrder, at_k⟩ := List.getElem?_eq_some_iff.mp (position k)
    refine ⟨(k - cursor).val, inOrder, at_k, fun i sooner => Bool.not_eq_true' _ |>.mpr (Bool.eq_false_iff.mpr fun found => ?_)⟩
    have small : i < 256 := sooner.trans (k - cursor).isLt
    have at_i := (getElem?_pollOrder cursor ⟨i, small⟩).symm.trans (List.getElem?_eq_getElem (sooner.trans inOrder))
    rw [← Option.some.inj at_i] at found
    have later := first _ found
    rw [add_sub_cancel_right, Fin.le_def] at later
    exact absurd sooner (Nat.not_lt.mpr later)

theorem find?_pollOrder_eq_none_iff (cursor : Fin 256) (p : Fin 256 → Bool) :
    (pollOrder cursor).find? p = none ↔ ∀ k, p k = false := by
  simp only [List.find?_eq_none, pollOrder, List.mem_rotate, List.mem_finRange, true_implies, Bool.not_eq_true]

theorem pollable_iff (l : Fin 4) (e : Entry) :
    pollable l e = true ↔ e.line = l ∧ (e.state = .provisional ∨ e.state = .active ∨ e.state = .retiring) := by
  simp only [pollable, Bool.and_eq_true, Bool.or_eq_true, decide_eq_true_eq, or_assoc]

theorem startPoll_of_found {s : State} {l : Fin 4} {k : Fin 256}
    (found : (pollOrder (s.lines.get l).cursor).find? (fun k => pollable l (entryAt s k)) = some k) :
    startPoll l s = modifyLine l (fun u =>
      { startTransaction .status (some (k, (entryAt s k).address)) u with cursor := k + 1 }) s := by
  rw [startPoll, nextPoll_eq, found] <;> rfl

theorem startPoll_of_none {s : State} {l : Fin 4}
    (absent : (pollOrder (s.lines.get l).cursor).find? (fun k => pollable l (entryAt s k)) = none) : startPoll l s = s := by
  rw [startPoll, nextPoll_eq, absent] <;> rfl

theorem consider_of_not_quiet {s : State} {l : Fin 4} (busy : ¬quiet s l = true) : consider l s = s := if_neg busy

theorem consider_of_request {s : State} {l : Fin 4} {r : Request} {rest : List Request} (free : quiet s l = true)
    (waiting : (s.lines.get l).queue = r :: rest) (below : (s.lines.get l).run < 8) :
    consider l s = modifyLine l (fun u => startTransaction (kindOfRequest r.kind) (some (r.slot, r.address)) { u with queue := rest }) s := by
  rw [consider, if_pos free]
  simp only [waiting]
  exact if_pos below

theorem consider_of_poll {s : State} {l : Fin 4} (free : quiet s l = true)
    (polls : (s.lines.get l).queue = [] ∨ 8 ≤ (s.lines.get l).run) : consider l s = startPoll l s := by
  rw [consider, if_pos free]
  cases waiting : (s.lines.get l).queue with
  | nil => rfl
  | cons r rest =>
    rw [waiting] at polls
    have full := polls.resolve_left (List.cons_ne_nil _ _)
    exact if_neg (Nat.not_lt.mpr full)

end Sys2Proof.Machine

open Sys2Proof Sys2Proof.Machine

/-- Settles O49. -/
theorem nextTransaction : Obligations.NextTransaction := by
  refine ⟨fun s => rfl, fun s l => ?_⟩
  simp only [← quiet_iff, ← pollable_iff]
  refine ⟨consider_of_not_quiet, fun r rest free waiting below => ?_, fun free polls => ⟨fun none => ?_, fun k found first => ?_⟩⟩
  · rw [consider_of_request free waiting below]
    rcases r with ⟨_ | _ | _, slot, address⟩ <;> rfl
  · rw [consider_of_poll free polls, startPoll_of_none]
    exact (find?_pollOrder_eq_none_iff _ _).mpr fun k => Bool.eq_false_iff.mpr (none k)
  · rw [consider_of_poll free polls, startPoll_of_found ((find?_pollOrder_eq_some_iff ..).mpr ⟨found, first⟩)]
    rfl

/-- Settles O46. -/
theorem transactionPhases : Obligations.TransactionPhases := by
  refine ⟨fun s l t powered inFlight => ⟨fun forward => ?_, fun micros window heard => ?_⟩, fun s l powered =>
    ⟨fun t inFlight gap kind => ?_, fun idle aborting => ?_, fun faulted waiting => ?_, fun t faulted inFlight kind gap => ?_⟩⟩
  all_goals refine congrArg Host.Outcome.next ((whenPowered_of_powered powered _).trans ?_)
  · simp only [inFlight]
    refine (if_pos forward).trans ?_
    rcases t with ⟨_ | _ | _ | _ | _, _, _, _⟩ <;> rfl
  · simp only [inFlight]
    refine (if_pos window).trans ?_
    refine congrArg (fun t => putLine l { s.lines.get l with inFlight := some t } s) ?_
    rw [edgeSeen, if_neg (by rw [heard]; decide)]
    rfl
  · refine if_pos ?_
    rw [transactionEnding, inFlight]
    exact Bool.and_eq_true_iff.mpr ⟨decide_eq_true gap, decide_eq_true kind⟩
  · refine (if_pos ?_).trans (congrArg (fun u => consider l (putLine l u s)) ?_)
    · rw [transactionEnding, idle]
      exact aborting
    · rw [← idle]
  · exact if_pos (Bool.and_eq_true_iff.mpr ⟨faulted, waiting⟩)
  · refine if_pos ?_
    rw [cleanProbe, inFlight]
    exact Bool.and_eq_true_iff.mpr ⟨Bool.and_eq_true_iff.mpr ⟨faulted, decide_eq_true kind⟩, decide_eq_true gap⟩
end

/-! PROOFS. A line emptied of the releases it holds (R16, R22, R149, R153), and what a contention leaves (O50). -/
section
namespace Sys2Proof.Machine

open Sys2Proof

/-! ### Releases ended (R22) -/

theorem getLsbD_blockBit (k : Fin 256) (m : Fin 32) : (blockBit k).getLsbD m.val = true ↔ k.val / 8 = m.val := by
  have small := m.isLt
  rw [blockBit, BitVec.getLsbD_shiftLeft, BitVec.getLsbD_one]
  simp only [small, decide_true, Bool.true_and, Bool.and_eq_true, Bool.not_eq_true', decide_eq_false_iff_not, decide_eq_true_eq]
  omega

/-- A release whose end frees the entry in its slot. -/
def EndFrees (l : Fin 4) (e : Entry) (address : Fin 64) : Prop := e.state = .retiring ∧ e.line = l ∧ e.address = address

theorem releaseEnds_of_frees {s : State} {l : Fin 4} {k : Fin 256} {address : Fin 64} (frees : EndFrees l (entryAt s k) address) :
    releaseEnds l k address s = freeSlot k s := if_pos frees

theorem releaseEnds_of_not {s : State} {l : Fin 4} {k : Fin 256} {address : Fin 64} (kept : ¬EndFrees l (entryAt s k) address) :
    releaseEnds l k address s = s := if_neg kept

theorem entryAt_freeSlot (k j : Fin 256) (s : State) : entryAt (freeSlot k s) j = if k = j then Entry.freed else entryAt s j :=
  Tbl.get_set ..

theorem getLsbD_marks_freeSlot (k : Fin 256) (m : Fin 32) (s : State) :
    (freeSlot k s).roster.marks.getLsbD m.val = true ↔ s.roster.marks.getLsbD m.val = true ∨ k.val / 8 = m.val := by
  change (s.roster.marks ||| blockBit k).getLsbD m.val = true ↔ _
  rw [BitVec.getLsbD_or, Bool.or_eq_true, getLsbD_blockBit]

/-- Releases of a line ended one after another, each by its slot and address. -/
def endReleases (l : Fin 4) (ended : List (Fin 256 × Fin 64)) (s : State) : State :=
  ended.foldl (fun acc r => releaseEnds l r.1 r.2 acc) s

/-- An entry that one of the ended releases frees. -/
def Freed (l : Fin 4) (ended : List (Fin 256 × Fin 64)) (k : Fin 256) (e : Entry) : Prop :=
  e.state = .retiring ∧ e.line = l ∧ (k, e.address) ∈ ended

theorem freed_cons_iff (l : Fin 4) (slot : Fin 256) (address : Fin 64) (ended : List (Fin 256 × Fin 64)) (k : Fin 256) (e : Entry) :
    Freed l ((slot, address) :: ended) k e ↔ k = slot ∧ EndFrees l e address ∨ Freed l ended k e := by
  simp only [Freed, EndFrees, List.mem_cons, Prod.mk.injEq]
  tauto

theorem entryAt_endReleases (l : Fin 4) (ended : List (Fin 256 × Fin 64)) (k : Fin 256) (s : State) :
    (Freed l ended k (entryAt s k) → entryAt (endReleases l ended s) k = Entry.freed) ∧
      (¬Freed l ended k (entryAt s k) → entryAt (endReleases l ended s) k = entryAt s k) := by
  induction ended generalizing s with
  | nil => exact ⟨fun freed => absurd freed.2.2 List.not_mem_nil, fun _ => rfl⟩
  | cons r ended ih =>
    obtain ⟨slot, address⟩ := r
    obtain ⟨frees, keeps⟩ := ih (releaseEnds l slot address s)
    change (_ → entryAt (endReleases l ended (releaseEnds l slot address s)) k = _) ∧
      (_ → entryAt (endReleases l ended (releaseEnds l slot address s)) k = _)
    rw [freed_cons_iff]
    by_cases ends : EndFrees l (entryAt s slot) address
    · rw [releaseEnds_of_frees ends, entryAt_freeSlot] at frees keeps
      rw [releaseEnds_of_frees ends]
      by_cases here : slot = k
      · rw [if_pos here] at keeps
        exact ⟨fun _ => keeps fun freed => absurd freed.1 (by decide), fun kept => absurd (.inl ⟨here.symm, here ▸ ends⟩) kept⟩
      · rw [if_neg here] at frees keeps
        exact ⟨fun freed => frees (freed.resolve_left fun same => here same.1.symm), fun kept => keeps fun freed => kept (.inr freed)⟩
    · rw [releaseEnds_of_not ends] at frees keeps ⊢
      exact ⟨fun freed => frees (freed.resolve_left fun same => ends (same.1 ▸ same.2)), fun kept => keeps fun freed => kept (.inr freed)⟩

/-- Ending releases sets the marks of the entries they free, and no others. -/
theorem getLsbD_marks_endReleases (l : Fin 4) (ended : List (Fin 256 × Fin 64)) (m : Fin 32) (s : State) :
    (endReleases l ended s).roster.marks.getLsbD m.val = true ↔
      s.roster.marks.getLsbD m.val = true ∨ ∃ k, Freed l ended k (entryAt s k) ∧ k.val / 8 = m.val := by
  induction ended generalizing s with
  | nil =>
    refine ⟨.inl, Or.rec id ?_⟩
    rintro ⟨k, freed, -⟩
    exact absurd freed.2.2 List.not_mem_nil
  | cons r ended ih =>
    obtain ⟨slot, address⟩ := r
    refine (ih (releaseEnds l slot address s)).trans ?_
    by_cases frees : EndFrees l (entryAt s slot) address
    · rw [releaseEnds_of_frees frees, getLsbD_marks_freeSlot, or_assoc]
      refine or_congr_right ⟨?_, ?_⟩
      · rintro (block | ⟨k, freed, block⟩)
        · exact ⟨slot, (freed_cons_iff ..).mpr (.inl ⟨rfl, frees⟩), block⟩
        · rw [entryAt_freeSlot] at freed
          by_cases here : slot = k
          · rw [if_pos here] at freed
            exact absurd freed.1 (by decide)
          · rw [if_neg here] at freed
            exact ⟨k, (freed_cons_iff ..).mpr (.inr freed), block⟩
      · rintro ⟨k, freed, block⟩
        by_cases here : slot = k
        · exact .inl (here ▸ block)
        · refine .inr ⟨k, ?_, block⟩
          rw [entryAt_freeSlot, if_neg here]
          exact ((freed_cons_iff ..).mp freed).resolve_left fun same => here same.1.symm
    · rw [releaseEnds_of_not frees]
      refine or_congr_right (exists_congr fun k => and_congr_left fun _ => ?_)
      rw [freed_cons_iff]
      exact ⟨.inr, Or.rec (fun same => absurd (same.1 ▸ same.2) frees) id⟩

theorem releaseEnds_rest (l : Fin 4) (k : Fin 256) (address : Fin 64) (s : State) (r : Roster) :
    { releaseEnds l k address s with roster := r } = { s with roster := r } := by
  by_cases frees : EndFrees l (entryAt s k) address
  · rw [releaseEnds_of_frees frees]
    rfl
  · rw [releaseEnds_of_not frees]

/-- Ending releases changes the roster alone. -/
theorem endReleases_rest (l : Fin 4) (ended : List (Fin 256 × Fin 64)) (s : State) (r : Roster) :
    { endReleases l ended s with roster := r } = { s with roster := r } :=
  foldl_keeps (fun t : State => { t with roster := r }) _ (fun acc x => releaseEnds_rest l x.1 x.2 acc r) ended s

theorem windowAndTick_endReleases (l : Fin 4) (ended : List (Fin 256 × Fin 64)) (s : State) :
    windowAndTick (endReleases l ended s) = windowAndTick s :=
  foldl_keeps windowAndTick _ (fun acc _ => windowAndTick_releaseEnds acc ..) ended s

/-! ### The releases that a line holds (R149, R153) -/

/-- A request's slot and address where it is a release. -/
def releaseOf (r : Request) : Option (Fin 256 × Fin 64) :=
  match r.kind with
  | .release _ => some (r.slot, r.address)
  | .level _ => none
  | .ident => none

/-- A transaction's slot and address where it is a release whose outcome is not yet formed. -/
def releaseUnformed (t : Transaction) : Option (Fin 256 × Fin 64) :=
  match t.kind with
  | .release _ => if t.phase = .gap then none else t.target
  | .level _ => none
  | .ident => none
  | .status => none
  | .probe => none

/-- The releases that a line abandons when it is faulted or disabled: the one in flight, then those of its queue. -/
def heldReleases (u : LineUnit) : List (Fin 256 × Fin 64) := (u.inFlight.bind releaseUnformed).toList ++ u.queue.filterMap releaseOf

theorem mem_heldReleases (u : LineUnit) (k : Fin 256) (address : Fin 64) :
    (k, address) ∈ heldReleases u ↔ (releaseQueued u k address || releaseInFlight u k address) = true := by
  have queued : (k, address) ∈ u.queue.filterMap releaseOf ↔ releaseQueued u k address = true := by
    rw [List.mem_filterMap, releaseQueued, List.any_eq_true]
    refine exists_congr fun r => and_congr_right fun _ => ?_
    rcases r with ⟨_ | _ | _, slot, held⟩ <;> simp [releaseOf]
  have flying : (k, address) ∈ (u.inFlight.bind releaseUnformed).toList ↔ releaseInFlight u k address = true := by
    rw [Option.mem_toList, releaseInFlight]
    cases u.inFlight with
    | none => simp
    | some t => rcases t with ⟨_ | _ | _ | _ | _, target, _ | _ | _ | _, _⟩ <;> simp [releaseUnformed]
  rw [heldReleases, List.mem_append, queued, flying, Bool.or_eq_true, or_comm]

theorem discardReleases_eq (l : Fin 4) (queue : List Request) (s : State) :
    discardReleases l queue s = endReleases l (queue.filterMap releaseOf) s := by
  induction queue generalizing s with
  | nil => rfl
  | cons r queue ih => rcases r with ⟨_ | _ | _, slot, address⟩ <;> exact ih _

theorem discardInFlight_eq {l : Fin 4} {t : Transaction} (unformed : t.phase ≠ .gap) (s : State) :
    discardInFlight l t s = endReleases l (releaseUnformed t).toList s := by
  obtain ⟨kind, target, phase, garbled⟩ := t
  cases kind with
  | release attempt =>
    simp only [releaseUnformed, if_neg unformed]
    cases target <;> rfl
  | _ => cases target <;> rfl

theorem endReleases_append (l : Fin 4) (first last : List (Fin 256 × Fin 64)) (s : State) :
    endReleases l last (endReleases l first s) = endReleases l (first ++ last) s := List.foldl_append.symm

/-- What becomes of the roster where a line is faulted or disabled: its releases end, and its confirmed levels are NONE (R16, R22). -/
def emptied (l : Fin 4) (u : LineUnit) (s : State) : State := clearConfirmed l (endReleases l (heldReleases u) s)

/-- An entry that a line's emptying frees. -/
def FreedBy (l : Fin 4) (u : LineUnit) (k : Fin 256) (e : Entry) : Prop :=
  e.state = .retiring ∧ e.line = l ∧ (releaseQueued u k e.address || releaseInFlight u k e.address) = true

theorem freed_heldReleases_iff (l : Fin 4) (u : LineUnit) (k : Fin 256) (e : Entry) :
    Freed l (heldReleases u) k e ↔ FreedBy l u k e := by
  rw [Freed, FreedBy, mem_heldReleases]

theorem emptied_eq (l : Fin 4) (u : LineUnit) (s : State) : emptied l u s = { s with roster := (emptied l u s).roster } :=
  endReleases_rest l (heldReleases u) s (emptied l u s).roster

theorem windowAndTick_emptied (l : Fin 4) (u : LineUnit) (s : State) : windowAndTick (emptied l u s) = windowAndTick s :=
  windowAndTick_endReleases l (heldReleases u) s

/-- An entry whose line makes its confirmed levels NONE (R16). -/
def unconfirmed (l : Fin 4) (e : Entry) : Entry := if e.state ≠ .free ∧ e.line = l then { e with confirmed := none } else e

theorem entryAt_emptied (l : Fin 4) (u : LineUnit) (k : Fin 256) (s : State) :
    (FreedBy l u k (entryAt s k) → entryAt (emptied l u s) k = Entry.freed) ∧
      (¬FreedBy l u k (entryAt s k) → entryAt (emptied l u s) k = unconfirmed l (entryAt s k)) := by
  obtain ⟨frees, keeps⟩ := entryAt_endReleases l (heldReleases u) k s
  rw [freed_heldReleases_iff] at frees keeps
  have cleared : entryAt (emptied l u s) k = unconfirmed l (entryAt (endReleases l (heldReleases u) s) k) := Tbl.get_map ..
  rw [cleared]
  exact ⟨fun freed => by rw [frees freed]; rfl, fun kept => by rw [keeps kept]⟩

theorem getLsbD_marks_emptied (l : Fin 4) (u : LineUnit) (m : Fin 32) (s : State) :
    (emptied l u s).roster.marks.getLsbD m.val = true ↔
      s.roster.marks.getLsbD m.val = true ∨ ∃ k, FreedBy l u k (entryAt s k) ∧ k.val / 8 = m.val := by
  simp only [← freed_heldReleases_iff]
  exact getLsbD_marks_endReleases l (heldReleases u) m s

/-! ### Contention (R146 to R149, R151) -/

/-- The line unit that a fault leaves (R149). -/
def faultedUnit (u : LineUnit) : LineUnit :=
  { aborted u with faulted := true, queue := [], contentions := 4, run := 0, faultWait := .running 2000 }

theorem faultLine_eq {s : State} {l : Fin 4} {t : Transaction} (inFlight : (s.lines.get l).inFlight = some t) (forward : t.phase = .forward) :
    faultLine l t s = report (.lineFault l) (emptied l (s.lines.get l) (putLine l (faultedUnit (s.lines.get l)) s)) := by
  have held : heldReleases (s.lines.get l) = (releaseUnformed t).toList ++ (s.lines.get l).queue.filterMap releaseOf := by
    rw [heldReleases, inFlight]
    rfl
  rw [emptied, held, ← endReleases_append, ← discardReleases_eq, ← discardInFlight_eq (by rw [forward]; decide)]
  rfl

theorem exec_contention {s : State} {l : Fin 4} {t : Transaction} (powered : s.powered = true)
    (inFlight : (s.lines.get l).inFlight = some t) (forward : t.phase = .forward) : exec (.contention l) s = .next (contend l t s) := by
  refine congrArg Host.Outcome.next ((whenPowered_of_powered powered _).trans ?_)
  simp only [inFlight]
  exact if_pos forward

/-- The state in which an entry still wants a request put back (R147). -/
def wantedState : RequestKind → EntryState
  | .level _ => .active
  | .ident => .active
  | .release _ => .retiring

theorem stillWanted_iff (l : Fin 4) (r : Request) (e : Entry) :
    stillWanted l r e = true ↔ e.state = wantedState r.kind ∧ e.line = l ∧ e.address = r.address := by
  rcases r with ⟨_ | _ | _, slot, address⟩
  all_goals
    simp only [stillWanted, Bool.and_eq_true, reportMatches_iff, decide_eq_true_eq]
    constructor
    · rintro ⟨⟨-, line, here⟩, state⟩
      exact ⟨state, line, here⟩
    · rintro ⟨state, line, here⟩
      exact ⟨⟨fun free => (nomatch state.symm.trans free), line, here⟩, state⟩

/-- A frame put back at the head of its line's queue, where nothing newer stands and its entry still wants it (R147). -/
theorem putBack_of_request {s : State} {l : Fin 4} {t : Transaction} {k : Fin 256} {address : Fin 64} {kind : RequestKind}
    (target : t.target = some (k, address)) (request : requestOf t.kind k address = some ⟨kind, k, address⟩) :
    putBack l t s =
      if (entryAt s k).state = wantedState kind ∧ (entryAt s k).line = l ∧ (entryAt s k).address = address ∧
          ∀ r ∈ (s.lines.get l).queue, r.address ≠ address then
        putLine l { s.lines.get l with queue := ⟨kind, k, address⟩ :: (s.lines.get l).queue } s
      else s := by
  rw [putBack, target]
  simp only [request]
  refine if_congr ?_ rfl rfl
  rw [Bool.and_eq_true, Bool.not_eq_true', queuedFor_eq_false_iff, stillWanted_iff, and_assoc, and_assoc]

/-- Below the fourth in a row, the frame is aborted and counted before it is put back (R147). -/
theorem contend_of_below {s : State} {l : Fin 4} (t : Transaction) (sound : (s.lines.get l).faulted = false)
    (below : (s.lines.get l).contentions < 3) :
    contend l t s = putBack l t (putLine l { aborted (s.lines.get l) with contentions := (s.lines.get l).contentions + 1 } s) := by
  rw [contend, if_neg (by rw [sound]; decide), if_neg (by change ¬4 ≤ _; omega)]
  rfl

theorem lines_get_putLine (l : Fin 4) (u : LineUnit) (s : State) : (putLine l u s).lines.get l = u := Tbl.get_set_self ..

theorem putLine_putLine (l : Fin 4) (u v : LineUnit) (s : State) : putLine l u (putLine l v s) = putLine l u s := by
  refine congrArg (fun lines => { s with lines := lines }) (Tbl.ext_get fun j => ?_)
  simp only [putLine, Tbl.get_set]
  split_ifs <;> rfl

theorem contend_of_request {s : State} {l : Fin 4} {t : Transaction} {k : Fin 256} {address : Fin 64} {kind : RequestKind}
    (sound : (s.lines.get l).faulted = false) (below : (s.lines.get l).contentions < 3) (target : t.target = some (k, address))
    (request : requestOf t.kind k address = some ⟨kind, k, address⟩) :
    contend l t s =
      if (entryAt s k).state = wantedState kind ∧ (entryAt s k).line = l ∧ (entryAt s k).address = address ∧
          ∀ r ∈ (s.lines.get l).queue, r.address ≠ address then
        putLine l { aborted (s.lines.get l) with
          contentions := (s.lines.get l).contentions + 1, queue := ⟨kind, k, address⟩ :: (s.lines.get l).queue } s
      else putLine l { aborted (s.lines.get l) with contentions := (s.lines.get l).contentions + 1 } s := by
  rw [contend_of_below t sound below, putBack_of_request target request, lines_get_putLine, putLine_putLine]
  rfl

theorem contend_of_poll {s : State} {l : Fin 4} {t : Transaction} {k : Fin 256} {address : Fin 64}
    (sound : (s.lines.get l).faulted = false) (below : (s.lines.get l).contentions < 3) (target : t.target = some (k, address))
    (polled : requestOf t.kind k address = none) :
    contend l t s =
      putLine l { aborted (s.lines.get l) with contentions := (s.lines.get l).contentions + 1, cursor := k } s := by
  rw [contend_of_below t sound below, putBack, target]
  simp only [polled]
  refine (putLine_putLine l _ _ s).trans ?_
  rw [lines_get_putLine]

theorem contend_of_fourth {s : State} {l : Fin 4} (t : Transaction) (sound : (s.lines.get l).faulted = false)
    (fourth : 3 ≤ (s.lines.get l).contentions) : contend l t s = faultLine l t s := by
  rw [contend, if_neg (by rw [sound]; decide), if_pos (by change 4 ≤ _; omega)]

end Sys2Proof.Machine

open Sys2Proof Sys2Proof.Machine

/-- Settles O50. -/
theorem contentionRule : Obligations.ContentionRule := by
  intro s l t powered inFlight forward
  rw [exec_contention powered inFlight forward]
  refine ⟨fun faulted => ?_, fun sound below => ⟨fun untargeted => ?_, fun k address target => ?_⟩, fun sound fourth => ?_⟩
  · exact congrArg Host.Outcome.next (if_pos faulted)
  · rw [contend_of_below t sound below, putBack, untargeted]
    rfl
  · rcases t with ⟨code | attempt | _ | _ | _, _, phase, garbled⟩
    case level | release | ident =>
      refine congrArg Host.Outcome.next ((contend_of_request sound below target rfl).trans ?_)
      change _ = putLine l (aborted (ite _ _ _)) s
      split <;> split
      next => rfl
      next back dropped => exact absurd back dropped
      next dropped back => exact absurd back dropped
      next => rfl
    case status | probe => exact congrArg Host.Outcome.next (contend_of_poll sound below target rfl)
  · rw [contend_of_fourth t sound fourth, faultLine_eq inFlight forward, emptied_eq]
    obtain ⟨window, tick⟩ := Prod.ext_iff.mp
      (windowAndTick_emptied l (s.lines.get l) (putLine l (faultedUnit (s.lines.get l)) s))
    refine ⟨_, rfl, window, tick, fun m => getLsbD_marks_emptied .., fun k => ?_⟩
    obtain ⟨frees, keeps⟩ := entryAt_emptied l (s.lines.get l) k (putLine l (faultedUnit (s.lines.get l)) s)
    split
    next freed => exact frees freed
    next kept => exact keeps kept
end

/-! PROOFS. SET_LINES (O51): what one line's switch leaves, and the four in turn. -/
section
namespace Sys2Proof.Machine

open Sys2Proof

/-! ### What a line considers (R140, R141) -/

/-- What a line unit considers depends on its own line, the slot it would poll and that slot's address. -/
theorem lines_get_consider_congr {s t : State} {l : Fin 4} (usable : s.settings.enables.get l = t.settings.enables.get l)
    (unit : s.lines.get l = t.lines.get l)
    (polls : ∀ k, pollable l (entryAt s k) = pollable l (entryAt t k))
    (address : ∀ k, pollable l (entryAt t k) = true → (entryAt s k).address = (entryAt t k).address) :
    (consider l s).lines.get l = (consider l t).lines.get l := by
  have sameQuiet : quiet s l = true ↔ quiet t l = true := by rw [quiet_iff, quiet_iff, usable, unit]
  by_cases free : quiet t l = true
  · have samePoll : (startPoll l s).lines.get l = (startPoll l t).lines.get l := by
      cases found : (pollOrder (t.lines.get l).cursor).find? (fun k => pollable l (entryAt t k)) with
      | none =>
        rw [startPoll_of_none found, startPoll_of_none (by rw [unit, funext polls]; exact found), unit]
      | some k =>
        rw [startPoll_of_found found, startPoll_of_found (k := k) (by rw [unit, funext polls]; exact found),
          address k ((find?_pollOrder_eq_some_iff ..).mp found).1]
        simp only [modifyLine, Tbl.get_modify_self, unit]
    cases waiting : (t.lines.get l).queue with
    | nil => rw [consider_of_poll (sameQuiet.mpr free) (.inl (unit ▸ waiting)), consider_of_poll free (.inl waiting), samePoll]
    | cons r rest =>
      by_cases below : (t.lines.get l).run < 8
      · rw [consider_of_request (sameQuiet.mpr free) (unit ▸ waiting) (unit ▸ below), consider_of_request free waiting below]
        simp only [modifyLine, Tbl.get_modify_self, unit]
      · rw [consider_of_poll (sameQuiet.mpr free) (.inr (unit ▸ Nat.le_of_not_lt below)),
          consider_of_poll free (.inr (Nat.le_of_not_lt below)), samePoll]
  · rw [consider_of_not_quiet free, consider_of_not_quiet (mt sameQuiet.mp free), unit]

theorem consider_rest (l : Fin 4) (s : State) (lines : Tbl LineUnit 4) : { consider l s with lines := lines } = { s with lines := lines } := by
  simp only [consider_powered, consider_settings, consider_roster, consider_scanner, consider_portals, consider_overrides, consider_link,
    consider_events, consider_store, consider_pending]

theorem lines_get_modifyLine_of_ne {l j : Fin 4} (other : j ≠ l) (f : LineUnit → LineUnit) (s : State) :
    (modifyLine l f s).lines.get j = s.lines.get j := Tbl.get_modify_other _ other.symm f

theorem lines_get_consider_of_ne {l j : Fin 4} (other : j ≠ l) (s : State) : (consider l s).lines.get j = s.lines.get j := by
  have polls : (startPoll l s).lines.get j = s.lines.get j := by
    cases found : (pollOrder (s.lines.get l).cursor).find? (fun k => pollable l (entryAt s k)) with
    | none => rw [startPoll_of_none found]
    | some k => rw [startPoll_of_found found, lines_get_modifyLine_of_ne other]
  by_cases free : quiet s l = true
  · cases waiting : (s.lines.get l).queue with
    | nil => rw [consider_of_poll free (.inl waiting), polls]
    | cons r rest =>
      by_cases below : (s.lines.get l).run < 8
      · rw [consider_of_request free waiting below, lines_get_modifyLine_of_ne other]
      · rw [consider_of_poll free (.inr (Nat.le_of_not_lt below)), polls]
  · rw [consider_of_not_quiet free]

/-! ### One line switched (R152, R153) -/

theorem heldReleases_eq (u : LineUnit) :
    heldReleases u = (match u.inFlight with
      | some t => if t.phase = .gap then [] else (releaseUnformed t).toList
      | none => []) ++ u.queue.filterMap releaseOf := by
  rw [heldReleases]
  rcases u.inFlight with _ | ⟨_ | _ | _ | _ | _, target, _ | _ | _ | _, garbled⟩ <;> rfl

theorem disableLine_eq (l : Fin 4) (s : State) :
    disableLine l s = emptied l (s.lines.get l) (putLine l { LineUnit.initial with cursor := (s.lines.get l).cursor } s) := by
  rw [emptied, heldReleases_eq, ← endReleases_append, ← discardReleases_eq, disableLine]
  rcases (s.lines.get l).inFlight with _ | t
  · rfl
  · by_cases gap : t.phase = .gap
    · simp only [if_pos gap]
      rfl
    · simp only [if_neg gap]
      rw [← discardInFlight_eq gap]
      rfl

/-- SET_LINES switches the line off. -/
def SwitchedOff (enables : BitVec 4) (s : State) (l : Fin 4) : Prop :=
  s.settings.enables.get l = true ∧ enables.getLsbD l.val = false

/-- The state with a line's enable written. -/
def withEnable (l : Fin 4) (enable : Bool) (s : State) : State :=
  { s with settings := { s.settings with enables := s.settings.enables.set l enable } }

/-- The line unit that SET_LINES leaves (R152, R153). -/
def switchedUnit (enables : BitVec 4) (s : State) (l : Fin 4) : LineUnit :=
  if s.settings.enables.get l = enables.getLsbD l.val then s.lines.get l
  else if enables.getLsbD l.val = true then (consider l (withEnable l true s)).lines.get l
  else { LineUnit.initial with cursor := (s.lines.get l).cursor }

/-- An entry that the switch of its line, one of those given, frees. -/
def SwitchFrees (enables : BitVec 4) (switched : List (Fin 4)) (s : State) (k : Fin 256) : Prop :=
  (entryAt s k).line ∈ switched ∧ SwitchedOff enables s (entryAt s k).line ∧
    FreedBy (entryAt s k).line (s.lines.get (entryAt s k).line) k (entryAt s k)

/-- What switching the lines given leaves of a state. -/
structure Switched (enables : BitVec 4) (switched : List (Fin 4)) (s t : State) : Prop where
  rest : { t with settings := s.settings, roster := s.roster, lines := s.lines } = s
  settings : { t.settings with enables := s.settings.enables } = s.settings
  enable : ∀ l, t.settings.enables.get l = if l ∈ switched then enables.getLsbD l.val else s.settings.enables.get l
  lines : ∀ l, t.lines.get l = if l ∈ switched then switchedUnit enables s l else s.lines.get l
  marks : ∀ m : Fin 32, t.roster.marks.getLsbD m.val = true ↔
    s.roster.marks.getLsbD m.val = true ∨ ∃ k, SwitchFrees enables switched s k ∧ k.val / 8 = m.val
  freed : ∀ k, SwitchFrees enables switched s k → entryAt t k = Entry.freed
  cleared : ∀ k, ¬SwitchFrees enables switched s k → (entryAt s k).line ∈ switched → SwitchedOff enables s (entryAt s k).line →
    entryAt t k = unconfirmed (entryAt s k).line (entryAt s k)
  kept : ∀ k, ¬((entryAt s k).line ∈ switched ∧ SwitchedOff enables s (entryAt s k).line) → entryAt t k = entryAt s k

theorem Switched.of_roster_eq {enables : BitVec 4} {l : Fin 4} {s t : State} (on : ¬SwitchedOff enables s l) (same : t.roster = s.roster)
    (rest : { t with settings := s.settings, roster := s.roster, lines := s.lines } = s)
    (settings : { t.settings with enables := s.settings.enables } = s.settings)
    (enable : ∀ j, t.settings.enables.get j = if j ∈ [l] then enables.getLsbD j.val else s.settings.enables.get j)
    (lines : ∀ j, t.lines.get j = if j ∈ [l] then switchedUnit enables s j else s.lines.get j) : Switched enables [l] s t := by
  have entries (k : Fin 256) : entryAt t k = entryAt s k := by rw [entryAt, same, entryAt]
  have none (k : Fin 256) (here : (entryAt s k).line ∈ [l]) (off : SwitchedOff enables s (entryAt s k).line) : False :=
    on (List.mem_singleton.mp here ▸ off)
  refine ⟨rest, settings, enable, lines, fun m => ?_, fun k frees => (none k frees.1 frees.2.1).elim,
    fun k _ here off => (none k here off).elim, fun k _ => entries k⟩
  rw [same]
  refine ⟨.inl, Or.rec id ?_⟩
  rintro ⟨k, frees, -⟩
  exact (none k frees.1 frees.2.1).elim

theorem switchLine_switched (enables : BitVec 4) (l : Fin 4) (s : State) : Switched enables [l] s (switchLine enables l s) := by
  have enabled (j : Fin 4) (t : Tbl Bool 4) (b : Bool) : (t.set l b).get j = if j ∈ [l] then b else t.get j := by
    rw [Tbl.get_set]
    simp only [List.mem_singleton, eq_comm]
  by_cases same : s.settings.enables.get l = enables.getLsbD l.val
  · have left : switchLine enables l s = s := if_pos same
    rw [left]
    refine .of_roster_eq (fun off => ?_) rfl rfl rfl (fun j => ?_) fun j => ?_
    · rw [off.1, off.2] at same
      cases same
    · split_ifs with here
      · rw [List.mem_singleton.mp here, same]
      · rfl
    · split_ifs with here
      · rw [List.mem_singleton.mp here, switchedUnit, if_pos same]
      · rfl
  · by_cases on : enables.getLsbD l.val = true
    · have left : switchLine enables l s = consider l (withEnable l true s) := by
        rw [switchLine, if_neg same, if_pos on, on]
        rfl
      rw [left]
      refine .of_roster_eq (fun off => ?_) (consider_roster ..) ?_ ?_ (fun j => ?_) fun j => ?_
      · rw [off.2] at on
        cases on
      · have outside := congrArg (fun t : State => { t with settings := s.settings, roster := s.roster })
          (consider_rest l (withEnable l true s) s.lines)
        exact outside
      · rw [consider_settings]
        rfl
      · rw [consider_settings]
        refine (enabled j s.settings.enables true).trans (ite_congr rfl (fun here => ?_) fun _ => rfl)
        rw [List.mem_singleton.mp here, on]
      · split_ifs with here
        · rw [List.mem_singleton.mp here, switchedUnit, if_neg same, if_pos on]
        · exact lines_get_consider_of_ne (fun self => here (List.mem_singleton.mpr self)) _
    · have off := Bool.eq_false_iff.mpr on
      have was : s.settings.enables.get l = true := by
        rw [off] at same
        exact Bool.eq_true_of_not_eq_false same
      have left : switchLine enables l s = emptied l (s.lines.get l)
          (putLine l { LineUnit.initial with cursor := (s.lines.get l).cursor } (withEnable l false s)) := by
        rw [switchLine, if_neg same, if_neg on, off]
        exact disableLine_eq l (withEnable l false s)
      rw [left, emptied_eq]
      have frees (k : Fin 256) : SwitchFrees enables [l] s k ↔ FreedBy l (s.lines.get l) k (entryAt s k) := by
        constructor
        · rintro ⟨here, -, freed⟩
          exact List.mem_singleton.mp here ▸ freed
        · intro freed
          have here := freed.2.1
          exact ⟨List.mem_singleton.mpr here, here ▸ ⟨was, off⟩, here.symm ▸ freed⟩
      have entry (k : Fin 256) := entryAt_emptied l (s.lines.get l) k
        (putLine l { LineUnit.initial with cursor := (s.lines.get l).cursor } (withEnable l false s))
      refine ⟨rfl, rfl, fun j => ?_, fun j => ?_, fun m => ?_, fun k freed => ?_, fun k kept here _ => ?_, fun k other => ?_⟩
      · refine (enabled j s.settings.enables false).trans (ite_congr rfl (fun here => ?_) fun _ => rfl)
        rw [List.mem_singleton.mp here, off]
      · refine (Tbl.get_set ..).trans ?_
        simp only [List.mem_singleton, eq_comm (a := l)]
        split_ifs with here
        · rw [here, switchedUnit, if_neg same, if_neg on]
        · rfl
      · simp only [frees]
        exact getLsbD_marks_emptied ..
      · exact (entry k).1 ((frees k).mp freed)
      · rw [List.mem_singleton.mp here]
        exact (entry k).2 (mt (frees k).mpr kept)
      · have elsewhere : (entryAt s k).line ≠ l := fun here => other ⟨List.mem_singleton.mpr here, here ▸ ⟨was, off⟩⟩
        refine ((entry k).2 fun freed => elsewhere freed.2.1).trans (if_neg fun both => elsewhere both.2)

/-! ### The lines switched in turn -/

/-- Lines switched earlier leave every entry of another line as it was. -/
theorem Switched.entry_of_other {enables : BitVec 4} {switched : List (Fin 4)} {s t : State} (done : Switched enables switched s t)
    {k : Fin 256} (other : (entryAt s k).line ∉ switched) : entryAt t k = entryAt s k :=
  done.kept k fun both => other both.1

/-- An entry after a switch is freed, or it keeps its line, state and address. -/
theorem Switched.entry_cases {enables : BitVec 4} {switched : List (Fin 4)} {s t : State} (done : Switched enables switched s t)
    (k : Fin 256) :
    (entryAt s k).line ∈ switched ∧ entryAt t k = Entry.freed ∨
      (entryAt t k).line = (entryAt s k).line ∧ (entryAt t k).state = (entryAt s k).state ∧ (entryAt t k).address = (entryAt s k).address := by
  by_cases frees : SwitchFrees enables switched s k
  · exact .inl ⟨frees.1, done.freed k frees⟩
  · refine .inr ?_
    by_cases off : (entryAt s k).line ∈ switched ∧ SwitchedOff enables s (entryAt s k).line
    · rw [done.cleared k frees off.1 off.2, unconfirmed]
      split_ifs <;> exact ⟨rfl, rfl, rfl⟩
    · rw [done.kept k off]
      exact ⟨rfl, rfl, rfl⟩

theorem Switched.switchedUnit_eq {enables : BitVec 4} {switched : List (Fin 4)} {s t : State} (done : Switched enables switched s t)
    {l : Fin 4} (next : l ∉ switched) : switchedUnit enables t l = switchedUnit enables s l := by
  have enable : t.settings.enables.get l = s.settings.enables.get l := by rw [done.enable, if_neg next]
  have unit : t.lines.get l = s.lines.get l := by rw [done.lines, if_neg next]
  have considered : (consider l (withEnable l true t)).lines.get l = (consider l (withEnable l true s)).lines.get l := by
    refine lines_get_consider_congr (by simp only [withEnable, Tbl.get_set_self]) unit (fun k => ?_) fun k polled => ?_
    · rw [Bool.eq_iff_iff, pollable_iff, pollable_iff]
      change (entryAt t k).line = l ∧ _ ↔ (entryAt s k).line = l ∧ _
      rcases done.entry_cases k with ⟨here, freed⟩ | ⟨line, state, -⟩
      · refine ⟨fun polled => ?_, fun polled => absurd (polled.1 ▸ here) next⟩
        have alive := polled.2
        change (entryAt t k).state = _ ∨ (entryAt t k).state = _ ∨ (entryAt t k).state = _ at alive
        rw [freed] at alive
        exact absurd alive (by decide)
      · change _ ∧ ((entryAt t k).state = _ ∨ (entryAt t k).state = _ ∨ (entryAt t k).state = _) ↔ _
        rw [line, state]
        rfl
    · have here := ((pollable_iff ..).mp polled).1
      rcases done.entry_cases k with ⟨switched, -⟩ | ⟨-, -, address⟩
      · exact absurd (here ▸ switched) next
      · exact address
  rw [switchedUnit, enable, unit, considered, switchedUnit]

theorem switchFrees_cons_iff (enables : BitVec 4) (l : Fin 4) (switched : List (Fin 4)) (s : State) (k : Fin 256) :
    SwitchFrees enables (l :: switched) s k ↔ SwitchFrees enables [l] s k ∨ SwitchFrees enables switched s k := by
  simp only [SwitchFrees, List.mem_cons, List.not_mem_nil, or_false, or_and_right]

/-- A freed entry stays freed. -/
theorem Switched.freed_stays {enables : BitVec 4} {switched : List (Fin 4)} {s t : State} (done : Switched enables switched s t)
    {k : Fin 256} (freed : entryAt s k = Entry.freed) : entryAt t k = Entry.freed := by
  by_cases off : (entryAt s k).line ∈ switched ∧ SwitchedOff enables s (entryAt s k).line
  · rw [done.cleared k (fun frees => ?_) off.1 off.2, freed]
    · rfl
    · have retiring := frees.2.2.1
      rw [freed] at retiring
      cases retiring
  · rw [done.kept k off, freed]

section

variable {enables : BitVec 4} {switched : List (Fin 4)} {l : Fin 4} {s t r : State}

theorem Switched.switchedOff_iff (done : Switched enables switched s t) (next : l ∉ switched) :
    SwitchedOff enables t l ↔ SwitchedOff enables s l := by
  rw [SwitchedOff, done.enable, if_neg next, SwitchedOff]

/-- The next line frees the entries that it would have freed first. -/
theorem Switched.switchFrees_next_iff (done : Switched enables switched s t) (next : l ∉ switched) (k : Fin 256) :
    SwitchFrees enables [l] t k ↔ SwitchFrees enables [l] s k := by
  have unit : t.lines.get l = s.lines.get l := by rw [done.lines, if_neg next]
  have shape (x : State) : SwitchFrees enables [l] x k ↔ SwitchedOff enables x l ∧ FreedBy l (x.lines.get l) k (entryAt x k) := by
    constructor
    · rintro ⟨here, off, freed⟩
      rw [List.mem_singleton.mp here] at off freed
      exact ⟨off, freed⟩
    · rintro ⟨off, freed⟩
      have here := freed.2.1
      exact ⟨List.mem_singleton.mpr here, here.symm ▸ off, here.symm ▸ freed⟩
  rw [shape, shape, done.switchedOff_iff next, unit]
  refine and_congr_right fun _ => ?_
  rcases done.entry_cases k with ⟨earlier, freed⟩ | ⟨line, -, -⟩
  · refine ⟨fun frees => ?_, fun frees => absurd (frees.2.1 ▸ earlier) next⟩
    have retiring := frees.1
    rw [freed] at retiring
    cases retiring
  · by_cases here : (entryAt s k).line = l
    · rw [done.entry_of_other (here ▸ next)]
    · exact ⟨fun frees => absurd (line ▸ frees.2.1) here, fun frees => absurd frees.2.1 here⟩

/-- A line switched after others that are not it. -/
theorem Switched.cons (done : Switched enables switched s t) (next : l ∉ switched) (last : Switched enables [l] t r) :
    Switched enables (l :: switched) s r := by
  refine ⟨?_, ?_, fun j => ?_, fun j => ?_, fun m => ?_, fun k frees => ?_, fun k stays here off => ?_, fun k stays => ?_⟩
  · have outside := congrArg (fun x : State => { x with settings := s.settings, roster := s.roster, lines := s.lines }) last.rest
    exact outside.trans done.rest
  · have outside := congrArg (fun x : Settings => { x with enables := s.settings.enables }) last.settings
    exact outside.trans done.settings
  · rw [last.enable, done.enable]
    simp only [List.mem_cons, List.not_mem_nil, or_false]
    by_cases here : j = l <;> simp [here]
  · rw [last.lines, done.lines]
    by_cases here : j = l
    · rw [here, if_pos List.mem_cons_self, if_pos List.mem_cons_self, done.switchedUnit_eq next]
    · simp only [List.mem_cons, List.not_mem_nil, or_false, here, if_false, false_or]
  · rw [last.marks, done.marks]
    simp only [done.switchFrees_next_iff next, switchFrees_cons_iff enables l switched, or_and_right, exists_or]
    rw [or_assoc]
    exact or_congr_right or_comm
  · rcases (switchFrees_cons_iff ..).mp frees with frees | frees
    · exact last.freed k ((done.switchFrees_next_iff next k).mpr frees)
    · exact last.freed_stays (done.freed k frees)
  · rw [switchFrees_cons_iff, not_or] at stays
    by_cases self : (entryAt s k).line = l
    · have same := done.entry_of_other (self ▸ next)
      have cleared := last.cleared k (mt (done.switchFrees_next_iff next k).mp stays.1)
      rw [same] at cleared
      exact cleared (List.mem_singleton.mpr self) ((done.switchedOff_iff (self ▸ next)).mpr off)
    · have earlier := done.cleared k stays.2 ((List.mem_cons.mp here).resolve_left self) off
      refine (last.kept k fun both => self ?_).trans earlier
      rw [← List.mem_singleton.mp both.1, earlier, unconfirmed]
      split_ifs <;> rfl
  · have same := done.kept k fun both => stays ⟨List.mem_cons_of_mem _ both.1, both.2⟩
    rw [last.kept k, same]
    rw [same]
    rintro ⟨here, off⟩
    have self := List.mem_singleton.mp here
    exact stays ⟨self ▸ List.mem_cons_self, (done.switchedOff_iff (self ▸ next)).mp off⟩

end

/-- Every line, the last switched first. -/
def allLines : List (Fin 4) := [3, 2, 1, 0]

theorem mem_allLines : ∀ l : Fin 4, l ∈ allLines := by decide

/-- The four lines switched in turn (R152). -/
theorem setLinesAt_switched (enables : BitVec 4) (limit : Nat) (s : State) :
    Switched enables allLines (changeMissLimit limit s) (setLinesAt enables limit s) :=
  (((switchLine_switched enables 0 _).cons (by decide) (switchLine_switched enables 1 _)).cons (by decide)
    (switchLine_switched enables 2 _)).cons (by decide) (switchLine_switched enables 3 _)

/-! ### The miss limit changed (R13, R145) -/

theorem changeMissLimit_settings (limit : Nat) (s : State) :
    (changeMissLimit limit s).settings = { s.settings with missLimit := limit } := by
  by_cases same : s.settings.missLimit = limit
  · rw [changeMissLimit, if_pos same, ← same]
  · rw [changeMissLimit, if_neg same]

/-- An entry under the miss limit that SET_LINES leaves (R13). -/
def limitedEntry (before limit : Nat) (e : Entry) : Entry := if before = limit then e else underMissLimit limit e

theorem entryAt_changeMissLimit (limit : Nat) (s : State) (k : Fin 256) :
    entryAt (changeMissLimit limit s) k = limitedEntry s.settings.missLimit limit (entryAt s k) := by
  by_cases same : s.settings.missLimit = limit
  · rw [changeMissLimit, if_pos same, limitedEntry, if_pos same]
  · rw [changeMissLimit, if_neg same, limitedEntry, if_neg same]
    exact Tbl.get_map ..

theorem limitedEntry_eq (before limit : Nat) (e : Entry) :
    limitedEntry before limit e =
      if limit = before ∨ e.state = .free then e
      else { e with miss := if e.health = .lost ∨ e.unreachable = true then limit else min e.miss limit } := by
  rw [limitedEntry, underMissLimit]
  by_cases same : before = limit
  · rw [if_pos same, if_pos (.inl same.symm)]
  · rw [if_neg same]
    by_cases free : e.state = .free
    · rw [if_pos free, if_pos (.inr free)]
    · rw [if_neg free, if_neg (not_or.mpr ⟨Ne.symm same, free⟩)]
      split_ifs <;> rfl

theorem limitedEntry_frame (before limit : Nat) (e : Entry) :
    (limitedEntry before limit e).line = e.line ∧ (limitedEntry before limit e).state = e.state ∧
      (limitedEntry before limit e).address = e.address := by
  rw [limitedEntry, underMissLimit]
  split_ifs <;> exact ⟨rfl, rfl, rfl⟩

theorem changeMissLimit_rest (limit : Nat) (s : State) :
    { changeMissLimit limit s with settings := s.settings, roster := s.roster } = s := by
  rw [changeMissLimit]
  split_ifs <;> rfl

theorem marks_changeMissLimit (limit : Nat) (s : State) : (changeMissLimit limit s).roster.marks = s.roster.marks := by
  rw [changeMissLimit]
  split_ifs <;> rfl

theorem lines_changeMissLimit (limit : Nat) (s : State) : (changeMissLimit limit s).lines = s.lines := by
  rw [changeMissLimit]
  split_ifs <;> rfl

theorem freedBy_limitedEntry (before limit : Nat) (l : Fin 4) (u : LineUnit) (k : Fin 256) (e : Entry) :
    FreedBy l u k (limitedEntry before limit e) ↔ FreedBy l u k e := by
  obtain ⟨line, state, address⟩ := limitedEntry_frame before limit e
  rw [FreedBy, line, state, address, FreedBy]

theorem switchedOff_changeMissLimit (enables : BitVec 4) (limit : Nat) (s : State) (l : Fin 4) :
    SwitchedOff enables (changeMissLimit limit s) l ↔ SwitchedOff enables s l := by
  rw [SwitchedOff, changeMissLimit_settings, SwitchedOff]

theorem freedBy_own_line (u : LineUnit) (k : Fin 256) (e : Entry) :
    FreedBy e.line u k e ↔ e.state = .retiring ∧ (releaseQueued u k e.address || releaseInFlight u k e.address) = true :=
  and_congr_right fun _ => and_iff_right rfl

theorem switchFrees_changeMissLimit (enables : BitVec 4) (limit : Nat) (s : State) (k : Fin 256) :
    SwitchFrees enables allLines (changeMissLimit limit s) k ↔
      SwitchedOff enables s (entryAt s k).line ∧ (entryAt s k).state = .retiring ∧
        (releaseQueued (s.lines.get (entryAt s k).line) k (entryAt s k).address ||
          releaseInFlight (s.lines.get (entryAt s k).line) k (entryAt s k).address) = true := by
  obtain ⟨line, -, -⟩ := limitedEntry_frame s.settings.missLimit limit (entryAt s k)
  rw [SwitchFrees, entryAt_changeMissLimit, line, freedBy_limitedEntry, switchedOff_changeMissLimit, lines_changeMissLimit,
    freedBy_own_line]
  exact ⟨And.right, fun both => ⟨mem_allLines _, both⟩⟩

/-- The changed miss limit changes nothing of what a line considers. -/
theorem switchedUnit_changeMissLimit (enables : BitVec 4) (limit : Nat) (s : State) (l : Fin 4) :
    switchedUnit enables (changeMissLimit limit s) l = switchedUnit enables s l := by
  have entry (k : Fin 256) := limitedEntry_frame s.settings.missLimit limit (entryAt s k)
  simp only [← entryAt_changeMissLimit] at entry
  have considered : (consider l (withEnable l true (changeMissLimit limit s))).lines.get l =
      (consider l (withEnable l true s)).lines.get l := by
    refine lines_get_consider_congr (by simp only [withEnable, Tbl.get_set_self])
      (congrArg (fun lines => lines.get l) (lines_changeMissLimit limit s)) (fun k => ?_) fun k _ => (entry k).2.2
    obtain ⟨line, state, -⟩ := entry k
    change pollable l (entryAt (changeMissLimit limit s) k) = pollable l (entryAt s k)
    rw [pollable, line, state, pollable]
  rw [switchedUnit, changeMissLimit_settings, lines_changeMissLimit, considered]
  rfl

end Sys2Proof.Machine

open Sys2Proof Sys2Proof.Machine

/-- Settles O51. -/
theorem setLinesResult : Obligations.SetLinesResult := by
  intro s enables missLimit heard
  refine ⟨fun set => command_station_eq heard ?_, fun clear outside => command_station_eq heard ?_,
    fun clear low high writing => command_station_eq heard ?_, fun clear low high free => ?_⟩
  · rw [takeSetLines, fourPositions_eq_none set, answered_refused]
  · rw [takeSetLines, fourPositions, if_pos clear]
    exact congrArg (answered s) (if_pos outside)
  · rw [takeSetLines, fourPositions, if_pos clear]
    exact congrArg (answered s) ((if_neg (by omega)).trans (if_pos writing))
  · refine ⟨setLinesAt (enables.extractLsb' 0 4) missLimit (closeWindow s), command_station_eq heard ?_, ?_⟩
    · rw [takeSetLines, fourPositions, if_pos clear]
      refine (congrArg (answered s) ((if_neg (by omega)).trans (if_neg (by rw [free]; decide)))).trans ?_
      exact answered_done ..
    · have enable (l : Fin 4) : (enables.extractLsb' 0 4).getLsbD l.val = enables.getLsbD l.val := by
        rw [BitVec.getLsbD_extractLsb', Nat.zero_add, decide_eq_true l.isLt, Bool.true_and]
      have switched := setLinesAt_switched (enables.extractLsb' 0 4) missLimit (closeWindow s)
      have settings := switched.settings
      rw [changeMissLimit_settings] at settings
      obtain ⟨window, tick⟩ := Prod.ext_iff.mp (windowAndTick_setLinesAt (closeWindow s) (enables.extractLsb' 0 4) missLimit)
      have off (l : Fin 4) : SwitchedOff (enables.extractLsb' 0 4) (closeWindow s) l ↔
          s.settings.enables.get l = true ∧ enables.getLsbD l.val = false := by
        rw [SwitchedOff, enable]
        rfl
      have line (l : Fin 4) : (setLinesAt (enables.extractLsb' 0 4) missLimit (closeWindow s)).lines.get l =
          switchedUnit (enables.extractLsb' 0 4) (closeWindow s) l := by
        rw [switched.lines, if_pos (mem_allLines l), switchedUnit_changeMissLimit]
      have frees (k : Fin 256) := (switchFrees_changeMissLimit (enables.extractLsb' 0 4) missLimit (closeWindow s) k).trans
        ((and_congr_left' (off _)).trans and_assoc)
      refine ⟨?_, ?_, fun l => ?_, congrArg Settings.missLimit settings, window, tick, fun l => ⟨fun same => ?_, fun was now => ?_,
        fun was now => ?_⟩, fun m => ?_, fun k => ?_⟩
      · have outside := congrArg (fun x : State => { x with settings := s.settings, roster := s.roster, lines := s.lines }) switched.rest
        have limited := congrArg (fun x : State => { x with settings := s.settings, roster := s.roster, lines := s.lines })
          (changeMissLimit_rest missLimit (closeWindow s))
        exact outside.trans limited
      · exact congrArg (fun x : Settings => { x with missLimit := s.settings.missLimit }) settings
      · rw [switched.enable, if_pos (mem_allLines l), enable]
      · rw [line, switchedUnit, enable]
        exact if_pos same
      · rw [line, switchedUnit, enable, now]
        exact (if_neg (by rw [show (closeWindow s).settings.enables.get l = true from was]; decide)).trans (if_neg (by decide))
      · rw [line, switchedUnit, enable, now]
        exact (if_neg (by rw [show (closeWindow s).settings.enables.get l = false from was]; decide)).trans
          ((if_pos rfl).trans (lines_get_consider_congr rfl rfl (fun _ => rfl) fun _ _ => rfl))
      · exact (switched.marks m).trans (or_congr (by rw [marks_changeMissLimit]; rfl) (exists_congr fun k => and_congr_left' (frees k)))
      · have limited := entryAt_changeMissLimit missLimit (closeWindow s) k
        obtain ⟨sameLine, sameState, -⟩ := limitedEntry_frame s.settings.missLimit missLimit (entryAt s k)
        have here : (entryAt (changeMissLimit missLimit (closeWindow s)) k).line = (entryAt s k).line := limited ▸ sameLine
        have state : (entryAt (changeMissLimit missLimit (closeWindow s)) k).state = (entryAt s k).state := limited ▸ sameState
        have offHere := (switchedOff_changeMissLimit (enables.extractLsb' 0 4) missLimit (closeWindow s) (entryAt s k).line).trans (off _)
        simp only [← limitedEntry_eq, Bool.and_eq_true, Bool.not_eq_true', and_assoc]
        split
        next freed => exact switched.freed k ((frees k).mpr freed)
        next kept =>
          split
          next cleared =>
            obtain ⟨was, now, held⟩ := cleared
            refine (switched.cleared k (mt (frees k).mp kept) (mem_allLines _) (here.symm ▸ offHere.mpr ⟨was, now⟩)).trans ?_
            rw [unconfirmed, if_pos ⟨state ▸ held, rfl⟩, limited]
            rfl
          next stays =>
            by_cases turned : SwitchedOff (enables.extractLsb' 0 4) (changeMissLimit missLimit (closeWindow s)) (entryAt s k).line
            · obtain ⟨was, now⟩ := offHere.mp turned
              refine (switched.cleared k (mt (frees k).mp kept) (mem_allLines _) (here.symm ▸ turned)).trans ?_
              rw [unconfirmed, if_neg fun held => stays ⟨was, now, state ▸ held.1⟩, limited]
              rfl
            · exact (switched.kept k fun both => turned (here ▸ both.2)).trans limited
end

/-! PROOFS. Outcomes reported to the roster: a valid reply's flags (O47), misses, releases and the IDENT (O48). -/
section
namespace Sys2Proof.Machine

open Sys2Proof

/-! ### The outcome formed (R130, R131) -/

/-- The line unit once its outcome is formed: its transaction is in its gap. -/
def inGap (t : Transaction) (u : LineUnit) : LineUnit := { u with inFlight := some { t with phase := .gap } }

theorem exec_replyOutcome {s : State} {l : Fin 4} {t : Transaction} {received : Option BackwardSignal} {reply : Reply}
    (powered : s.powered = true) (inFlight : (s.lines.get l).inFlight = some t) (formed : outcomeOf t received = some reply) :
    exec (.replyOutcome l received) s = .next (outcomeEffect l t reply (putLine l (inGap t (s.lines.get l)) s)) := by
  refine congrArg Host.Outcome.next ((whenPowered_of_powered powered _).trans ?_)
  simp only [inFlight, formed]
  rfl

/-- Silence at the close of the window, or a GARBLED frame. -/
def Missed (t : Transaction) (received : Option BackwardSignal) : Prop :=
  t.phase = .window ∧ received = none ∨
    ∃ signal, received = some signal ∧ t.phase = .backward ∧ decodeReply t.kind signal = none

/-- A backward frame that decodes. -/
def Answered (t : Transaction) (received : Option BackwardSignal) : Prop :=
  ∃ signal, received = some signal ∧ t.phase = .backward ∧ decodeReply t.kind signal ≠ none

theorem outcomeOf_of_decodes {t : Transaction} {signal : BackwardSignal} {flags : DriverFlags} {level : Nat} (back : t.phase = .backward)
    (decodes : decodeReply t.kind signal = some (flags, level)) : outcomeOf t (some signal) = some (.valid flags level) := by
  obtain ⟨kind, target, _, garbled⟩ := t
  cases back
  simp only [outcomeOf, decodes]

theorem outcomeOf_of_missed {t : Transaction} {received : Option BackwardSignal} (missed : Missed t received) :
    outcomeOf t received = some .miss := by
  obtain ⟨kind, target, phase, early⟩ := t
  rcases missed with ⟨window, silent⟩ | ⟨signal, heard, back, garbled⟩
  · cases window
    cases silent
    rfl
  · cases back
    cases heard
    simp only [outcomeOf, garbled]

theorem outcomeOf_of_answered {t : Transaction} {received : Option BackwardSignal} (answer : Answered t received) :
    ∃ flags level, outcomeOf t received = some (.valid flags level) := by
  obtain ⟨signal, heard, back, valid⟩ := answer
  obtain ⟨⟨flags, level⟩, decodes⟩ := Option.ne_none_iff_exists'.mp valid
  exact ⟨flags, level, heard ▸ outcomeOf_of_decodes back decodes⟩

/-! ### A miss (R12, R13) -/

theorem applyMiss_of_matching {s : State} {l : Fin 4} {k : Fin 256} {address : Fin 64}
    (matching : reportMatches l address (entryAt s k) = true) :
    let e := entryAt s k
    let count := if e.miss < s.settings.missLimit then e.miss + 1 else e.miss
    applyMiss l k address s =
      if count < s.settings.missLimit then putEntry k { e with miss := count } s
      else if e.state = .provisional then
        if e.unreachable = true then putEntry k { e with miss := count } s
        else report .entryUnreachable (putEntry k { e with miss := count, unreachable := true } s)
      else if e.health = .lost then putEntry k { e with miss := count } s
      else report .entryLost (mark k (putEntry k { e with miss := count, health := .lost } s)) := by
  intro e count
  change (if reportMatches l address e = true then
    if e.state = .provisional then
      if s.settings.missLimit ≤ count ∧ e.unreachable = false then _ else _
    else if s.settings.missLimit ≤ count ∧ e.health ≠ .lost then _ else _
    else _) = _
  rw [if_pos matching]
  by_cases below : count < s.settings.missLimit
  · have short (unseen : Prop) : ¬(s.settings.missLimit ≤ count ∧ unseen) := fun limit => absurd limit.1 (Nat.not_le.mpr below)
    rw [if_pos below, if_neg (short _), if_neg (short _), ite_self]
    rfl
  · rw [if_neg below]
    have reached := Nat.le_of_not_lt below
    refine ite_congr rfl (fun _ => ?_) fun _ => ?_
    · by_cases unreachable : e.unreachable = true
      · rw [if_pos unreachable, if_neg fun both => by rw [unreachable] at both; cases both.2]
        rfl
      · rw [if_neg unreachable, if_pos ⟨reached, Bool.eq_false_iff.mpr unreachable⟩]
        rfl
    · by_cases lost : e.health = .lost
      · rw [if_pos lost, if_neg fun both => both.2 lost]
        rfl
      · rw [if_neg lost, if_pos ⟨reached, lost⟩]
        rfl

theorem applyMiss_of_not_matching {s : State} {l : Fin 4} {k : Fin 256} {address : Fin 64}
    (other : ¬reportMatches l address (entryAt s k) = true) : applyMiss l k address s = s := if_neg other

theorem applyReply_of_not_matching {s : State} {l : Fin 4} {k : Fin 256} {address : Fin 64} (kind : ReportKind) (f : DriverFlags)
    (level : Nat) (other : ¬reportMatches l address (entryAt s k) = true) : applyReply kind l k address f level s = s := if_neg other

/-- What a kind of frame other than a release reports to the roster, of an entry of its own or of none. -/
theorem outcomeEffect_of_not_matching {s : State} {l : Fin 4} {k : Fin 256} {address : Fin 64} {t : Transaction} (reply : Reply)
    (target : t.target = some (k, address)) (kind : ∀ attempt, t.kind ≠ .release attempt)
    (other : ¬reportMatches l address (entryAt s k) = true) : outcomeEffect l t reply s = s := by
  have unreported (report : ReportKind) : reportReply report l k address reply s = s := by
    cases reply with
    | valid flags level => exact applyReply_of_not_matching report flags level other
    | miss => exact applyMiss_of_not_matching other
  obtain ⟨made, _, phase, garbled⟩ := t
  cases target
  cases made with
  | release attempt => exact absurd rfl (kind attempt)
  | level code => exact unreported .level
  | status => exact unreported .status
  | ident => exact unreported .ident
  | probe => rfl

theorem outcomeEffect_miss {s : State} {l : Fin 4} {k : Fin 256} {address : Fin 64} {t : Transaction}
    (target : t.target = some (k, address)) (kind : ∀ attempt, t.kind ≠ .release attempt) (sent : t.kind ≠ .probe) :
    outcomeEffect l t .miss s = applyMiss l k address s := by
  obtain ⟨made, _, phase, garbled⟩ := t
  cases target
  cases made with
  | release attempt => exact absurd rfl (kind attempt)
  | probe => exact absurd rfl sent
  | _ => rfl

theorem outcomeEffect_release {l : Fin 4} {k : Fin 256} {address : Fin 64} {t : Transaction} {attempt : Nat} (reply : Reply) (s : State)
    (target : t.target = some (k, address)) (kind : t.kind = .release attempt) :
    outcomeEffect l t reply s = releaseOutcome l k address attempt reply s := by
  rw [outcomeEffect, target, kind]

theorem outcomeEffect_acknowledged {s : State} {l : Fin 4} {k : Fin 256} {address : Fin 64} {t : Transaction} (flags : DriverFlags)
    (level : Nat) (target : t.target = some (k, address)) (kind : t.kind = .ident)
    (matching : reportMatches l address (entryAt s k) = true) :
    outcomeEffect l t (.valid flags level) s = putEntry k { entryAt s k with miss := 0 } s := by
  rw [outcomeEffect, target, kind]
  exact if_pos matching

/-! ### A valid reply (R10, R11, R14 to R16) -/

/-- A reply's health is a failure that the entry did not have (R14). -/
abbrev Fails (health : Health) (e : Entry) : Prop :=
  (health = .lampFail ∨ health = .gearFail) ∧ ¬(e.health = .lampFail ∨ e.health = .gearFail)

theorem failing_eq (health : Health) (e : Entry) : failing e.health health = decide (Fails health e) := by
  rw [Bool.eq_iff_iff, failing, Bool.and_eq_true, Bool.not_eq_true', decide_eq_true_eq, failed_iff, Fails, ← failed_iff e.health,
    Bool.not_eq_true]

theorem leavingFailure_iff (before after : Health) :
    leavingFailure before after = true ↔ (before = .lampFail ∨ before = .gearFail) ∧ ¬(after = .lampFail ∨ after = .gearFail) := by
  rw [leavingFailure, Bool.and_eq_true, Bool.not_eq_true', failed_iff, ← failed_iff after, Bool.not_eq_true]

/-- The reply makes a pinned entry take its pin's level: at its verification, and as it leaves a failure (R11, R14). -/
abbrev TakesPin (health : Health) (e : Entry) : Prop :=
  e.state = .provisional ∧ ¬(health = .lampFail ∨ health = .gearFail) ∨
    ((e.health = .lampFail ∨ e.health = .gearFail) ∧ ¬(health = .lampFail ∨ health = .gearFail)) ∧ e.state ≠ .retiring

theorem takesPin_iff_of_held {health : Health} {e : Entry} (held : e.state ≠ .free) :
    (e.state = .provisional ∧ (!health.failed) = true ∨
        leavingFailure e.health health = true ∧ ((if e.state = .provisional then EntryState.active else e.state) = .active ∨
          (if e.state = .provisional then EntryState.active else e.state) = .suspended)) ↔ TakesPin health e := by
  rw [TakesPin, leavingFailure_iff, Bool.not_eq_true', ← Bool.not_eq_true, failed_iff]
  refine or_congr_right (and_congr_right fun _ => ?_)
  cases state : e.state
  case free => exact absurd state held
  all_goals decide

theorem replied_eq {health : Health} {e : Entry} (held : e.state ≠ .free) (acknowledged : Option Nat) :
    replied health acknowledged e =
      { e with
        state := if e.state = .provisional then .active else e.state
        health := health
        miss := 0
        unreachable := if e.state = .provisional then false else e.unreachable
        setLevel := if Fails health e then 0 else if TakesPin health e then e.pin.getD e.setLevel else e.setLevel
        confirmed := acknowledged.or e.confirmed } := by
  simp only [replied, failing_eq, decide_eq_true_eq]
  rw [if_congr (takesPin_iff_of_held held) rfl rfl]
  cases acknowledged <;> rfl

theorem replyRequest_eq (health : Health) (e : Entry) :
    replyRequest health e =
      if e.state ≠ .provisional ∧ e.state ≠ .active then none
      else if Fails health e then some 0
      else if TakesPin health e then e.pin else none := by
  simp only [replyRequest, failing_eq, decide_eq_true_eq]
  by_cases asked : e.state = .provisional ∨ e.state = .active
  · rw [if_pos asked, if_neg (c := e.state ≠ .provisional ∧ e.state ≠ .active) fun neither => asked.elim neither.1 neither.2]
    refine ite_congr rfl (fun _ => rfl) fun _ => if_congr ?_ rfl rfl
    rw [TakesPin, leavingFailure_iff, Bool.not_eq_true', ← Bool.not_eq_true, failed_iff]
    refine or_congr_right (and_iff_left ?_).symm
    rcases asked with state | state <;> rw [state] <;> decide
  · rw [if_neg asked, if_pos (not_or.mp asked)]

/-- A request handed where there is one, on a line's own queue. -/
def withRequest (usable : Bool) (k : Fin 256) (address : Fin 64) (request : Option Nat) (queue : List Request) : List Request :=
  match request with
  | some code => if usable then enqueue ⟨.level code, k, address⟩ queue else queue
  | none => queue

theorem handOptional_eq (l : Fin 4) (k : Fin 256) (address : Fin 64) (request : Option Nat) (s : State) :
    handOptional l k address request s =
      putLine l { s.lines.get l with queue := withRequest (lineUsable s l) k address request (s.lines.get l).queue } s := by
  have unchanged : putLine l (s.lines.get l) s = s := by
    refine congrArg (fun lines => { s with lines := lines }) (Tbl.ext_get fun j => ?_)
    rw [Tbl.get_set]
    split_ifs with here
    · rw [here]
    · rfl
  cases request with
  | none => exact unchanged.symm
  | some code =>
    change (if lineUsable s l = true then _ else _) = putLine l { s.lines.get l with queue := if lineUsable s l = true then _ else _ } s
    by_cases usable : lineUsable s l = true
    · rw [if_pos usable, if_pos usable]
      rfl
    · rw [if_neg usable, if_neg usable]
      exact unchanged.symm

theorem applyFlags_eq (l : Fin 4) (k : Fin 256) (address : Fin 64) (f : DriverFlags) (acknowledged : Option Nat) (s : State) :
    let e := entryAt s k
    let health := healthOf f
    applyFlags l k address f acknowledged s =
      { s with
        roster :=
          { s.roster with
            slots := s.roster.slots.set k (replied health acknowledged e)
            marks := if e.state = .provisional ∨ health ≠ e.health then s.roster.marks ||| blockBit k else s.roster.marks }
        events := (reportIf (decide (Fails health e)) .entryFail (reportIf (decide (e.health = .lost)) .entryRecovered s)).events
        lines := s.lines.set l
          { s.lines.get l with
            queue := withRequest (lineUsable s l) k address (replyRequest health e) (s.lines.get l).queue } } := by
  intro e health
  refine (handOptional_eq ..).trans ?_
  change putLine l { (reportIf (failing e.health health) _ (reportIf (decide (e.health = .lost)) _
    (markIf (decide (e.state = .provisional) || decide (health ≠ e.health)) k _))).lines.get l with queue := withRequest _ _ _ _ _ } _ = _
  have written : (if e.state = .provisional ∨ health ≠ e.health then s.roster.marks ||| blockBit k else s.roster.marks) =
      if (decide (e.state = .provisional) || decide (health ≠ e.health)) = true then s.roster.marks ||| blockBit k
      else s.roster.marks := if_congr (by rw [Bool.or_eq_true, decide_eq_true_eq, decide_eq_true_eq]) rfl rfl
  rw [written, failing_eq]
  generalize (decide (e.state = .provisional) || decide (health ≠ e.health)) = marked
  generalize decide (e.health = .lost) = recovered
  generalize decide (Fails health e) = fails
  cases marked <;> cases recovered <;> cases fails <;> rfl

/-- Reports do not look at the lines. -/
theorem reportIf_putLine_events (l : Fin 4) (u : LineUnit) (first second : Bool) (a b : Event) (s : State) :
    (reportIf first a (reportIf second b (putLine l u s))).events = (reportIf first a (reportIf second b s)).events := by
  cases first <;> cases second <;> rfl

theorem set_lines_putLine (l : Fin 4) (u v : LineUnit) (s : State) : (putLine l u s).lines.set l v = s.lines.set l v :=
  congrArg State.lines (putLine_putLine l v u s)

theorem lineUsable_inGap (l : Fin 4) (t : Transaction) (s : State) :
    lineUsable (putLine l (inGap t (s.lines.get l)) s) l = lineUsable s l := by
  rw [lineUsable, lines_get_putLine]
  rfl

end Sys2Proof.Machine

open Sys2Proof Sys2Proof.Machine

/-- Settles O48. -/
theorem missAndRelease : Obligations.MissAndRelease := by
  intro s l k address t received powered inFlight target
  simp only [← reportMatches_iff]
  refine ⟨fun matching missed kind sent => ?_, fun attempt kind => ⟨fun missed early => ?_, fun ends => ?_⟩,
    fun matching valid kind => ?_, fun other outcome kind => ?_⟩
  · rw [exec_replyOutcome powered inFlight (outcomeOf_of_missed missed), outcomeEffect_miss target kind sent]
    exact congrArg Host.Outcome.next (applyMiss_of_matching (s := putLine l (inGap t (s.lines.get l)) s) matching)
  · rw [exec_replyOutcome powered inFlight (outcomeOf_of_missed missed), outcomeEffect_release _ _ target kind]
    refine congrArg Host.Outcome.next ((if_neg (Nat.not_le.mpr early)).trans ?_)
    refine if_congr ?_ rfl ((putLine_putLine l _ _ s).trans ?_)
    · rw [queuedFor_iff, lines_get_putLine]
      rfl
    · rw [lines_get_putLine]
      rfl
  · have ended : exec (.replyOutcome l received) s = .next (releaseEnds l k address (putLine l (inGap t (s.lines.get l)) s)) := by
      rcases ends with ⟨missed, last⟩ | valid
      · rw [exec_replyOutcome powered inFlight (outcomeOf_of_missed missed), outcomeEffect_release _ _ target kind]
        exact congrArg Host.Outcome.next (if_pos last)
      · obtain ⟨flags, level, formed⟩ := outcomeOf_of_answered valid
        rw [exec_replyOutcome powered inFlight formed, outcomeEffect_release _ _ target kind]
        rfl
    exact ended
  · obtain ⟨flags, level, formed⟩ := outcomeOf_of_answered valid
    rw [exec_replyOutcome powered inFlight formed]
    exact congrArg Host.Outcome.next (outcomeEffect_acknowledged (s := putLine l (inGap t (s.lines.get l)) s) flags level target kind matching)
  · have effect (reply : Reply) : outcomeEffect l t reply (putLine l (inGap t (s.lines.get l)) s) = putLine l (inGap t (s.lines.get l)) s :=
      outcomeEffect_of_not_matching reply target kind other
    rcases outcome with missed | valid
    · rw [exec_replyOutcome powered inFlight (outcomeOf_of_missed missed), effect]
      rfl
    · obtain ⟨flags, level, formed⟩ := outcomeOf_of_answered valid
      rw [exec_replyOutcome powered inFlight formed, effect]
      rfl

/-- Settles O47. -/
theorem replyApplied : Obligations.ReplyApplied := by
  intro s l k address kind garbled signal flags level powered inFlight kinds decodes e held line here health
  have matching : reportMatches l address e = true := (reportMatches_iff ..).mpr ⟨held, line, here⟩
  let t : Transaction := ⟨kind, some (k, address), .backward, garbled⟩
  rw [exec_replyOutcome powered inFlight (outcomeOf_of_decodes (t := t) rfl decodes)]
  refine congrArg Host.Outcome.next ?_
  have applied : outcomeEffect l t (.valid flags level) (putLine l (inGap t (s.lines.get l)) s) =
      applyFlags l k address flags (if kind = .status then none else some level) (putLine l (inGap t (s.lines.get l)) s) := by
    rcases kinds with status | ⟨code, sent⟩
    · cases status
      exact if_pos matching
    · cases sent
      exact if_pos matching
  refine applied.trans ((applyFlags_eq ..).trans ?_)
  rw [reportIf_putLine_events, lineUsable_inGap, lines_get_putLine, set_lines_putLine]
  have acknowledged : (if kind = .status then none else some level).or e.confirmed =
      if kind = .status then e.confirmed else some level := by
    split_ifs <;> rfl
  have entry := replied_eq (health := health) held (if kind = .status then none else some level)
  rw [acknowledged] at entry
  have request := replyRequest_eq health e
  change
    ({ s with
      roster := { s.roster with slots := s.roster.slots.set k (replied health _ e), marks := _ }
      events := _
      lines := s.lines.set l
        { inGap t (s.lines.get l) with queue := withRequest _ _ _ (replyRequest health e) _ } } : State) = _
  rw [entry, request]
  rfl
end

/-! PROOFS. The frames of a drive line (O45). -/
section
namespace Sys2Proof.Machine

open Sys2Proof

/-! ### Parity (12.5) -/

theorem foldl_xor_eq (f : Nat → Bool) (l : List Nat) (b : Bool) :
    l.foldl (fun acc i => acc ^^ f i) b = (b ^^ decide (l.countP f % 2 = 1)) := by
  induction l generalizing b with
  | nil => simp
  | cons i l ih =>
    rw [List.foldl_cons, ih, List.countP_cons, Bool.xor_assoc]
    refine congrArg (b ^^ ·) ?_
    cases f i with
    | false => simp
    | true =>
      rw [Bool.true_xor, ← decide_not, decide_eq_decide, if_pos rfl]
      omega

theorem parityBit_eq {n : Nat} (bits : BitVec n) : parityBit bits = decide ((List.range n).countP (fun i => bits.getLsbD i) % 2 = 1) :=
  (foldl_xor_eq ..).trans (Bool.false_xor _)

/-! ### A forward frame's cells (12.5) -/

section Cells

variable (target : BitVec 7) (command : BitVec 3) (argument : BitVec 10)

/-- The cells that a forward frame's parity covers. -/
def coveredCells : BitVec 22 := target ++ command ++ argument ++ 0#2

theorem forwardFrame_eq :
    forwardFrame target command argument =
      1#1 ++ coveredCells target command argument ++ BitVec.ofBool (parityBit (coveredCells target command argument)) := rfl

theorem getLsbD_forwardFrame_zero :
    (forwardFrame target command argument).getLsbD 0 = parityBit (coveredCells target command argument) := by
  rw [forwardFrame_eq, BitVec.getLsbD_append]
  simp

theorem getLsbD_forwardFrame_succ {i : Nat} (covered : i < 22) :
    (forwardFrame target command argument).getLsbD (i + 1) = (coveredCells target command argument).getLsbD i := by
  rw [forwardFrame_eq, BitVec.getLsbD_append, BitVec.getLsbD_append]
  simp [covered]

theorem extractLsb'_forwardFrame {start width : Nat} (inside : start + width ≤ 22) :
    (forwardFrame target command argument).extractLsb' (start + 1) width =
      (coveredCells target command argument).extractLsb' start width := by
  refine BitVec.eq_of_getLsbD_eq fun i small => ?_
  rw [BitVec.getLsbD_extractLsb', BitVec.getLsbD_extractLsb', Nat.add_right_comm, getLsbD_forwardFrame_succ _ _ _ (by omega)]

/-- The count of 1s over the covered cells and the parity is even. -/
theorem even_forwardFrame : ((List.range 23).countP fun i => (forwardFrame target command argument).getLsbD i) % 2 = 0 := by
  have rest : (List.range 22).countP ((fun i => (forwardFrame target command argument).getLsbD i) ∘ Nat.succ) =
      (List.range 22).countP fun i => (coveredCells target command argument).getLsbD i :=
    List.countP_congr fun i inside => by
      rw [Function.comp_apply, Nat.succ_eq_add_one, getLsbD_forwardFrame_succ _ _ _ (List.mem_range.mp inside)]
  rw [List.range_succ_eq_map, List.countP_cons, List.countP_map, rest, getLsbD_forwardFrame_zero, parityBit_eq]
  simp only [decide_eq_true_eq]
  split_ifs <;> omega

end Cells

/-! ### Read-back (R146, R188) -/

theorem levelDriven_eq (frame : BitVec 24) (half : Nat) :
    levelDriven frame half =
      if 48 ≤ half then true else if half % 2 = 1 then frame.getLsbD (23 - half / 2) else !frame.getLsbD (23 - half / 2) := by
  rw [levelDriven]
  by_cases stop : 48 ≤ half
  · rw [if_neg (Nat.not_lt.mpr stop), if_pos stop]
  · rw [if_pos (Nat.lt_of_not_le stop), if_neg stop]
    by_cases second : half % 2 = 1
    · exact (if_neg (by omega)).trans (if_pos second).symm
    · exact (if_pos (by omega)).trans (if_neg second).symm

/-! ### A backward frame decoded (R130, R188) -/

theorem xor_eq_allOnes_iff {n : Nat} (a b : BitVec n) : a ^^^ b = BitVec.allOnes n ↔ ∀ i : Fin n, a.getLsbD i.val ≠ b.getLsbD i.val := by
  rw [BitVec.eq_of_getLsbD_eq_iff]
  refine ⟨fun same i => ?_, fun differ i small => ?_⟩
  · have bit := same i.val i.isLt
    rw [BitVec.getLsbD_xor, BitVec.getLsbD_allOnes, decide_eq_true i.isLt] at bit
    exact bne_iff_ne.mp bit
  · rw [BitVec.getLsbD_xor, BitVec.getLsbD_allOnes, decide_eq_true small]
    exact bne_iff_ne.mpr (differ ⟨i, small⟩)

theorem parityBit_low (cells : BitVec 17) :
    parityBit (cells.extractLsb' 0 16) = false ↔ ((List.range 16).countP fun i => cells.getLsbD i) % 2 = 0 := by
  have low : (List.range 16).countP (fun i => (cells.extractLsb' 0 16).getLsbD i) = (List.range 16).countP fun i => cells.getLsbD i :=
    List.countP_congr fun i inside => by
      rw [BitVec.getLsbD_extractLsb', decide_eq_true (List.mem_range.mp inside), Bool.true_and, Nat.zero_add]
  rw [parityBit_eq, low, decide_eq_false_iff_not]
  omega

theorem decodeReply_eq_some_iff (kind : TransactionKind) (r : BackwardSignal) (flags : DriverFlags) (level : Nat) :
    decodeReply kind r = some (flags, level) ↔
      ((∀ i : Fin 17, r.firstHalf.getLsbD i.val ≠ r.secondHalf.getLsbD i.val) ∧
        (r.secondHalf.getLsbD 16 = true ∧ r.stopHigh = true) ∧
        ((List.range 16).countP fun i => r.secondHalf.getLsbD i) % 2 = 0 ∧
        r.secondHalf.extractLsb' 14 2 ≠ 0#2 ∧ r.secondHalf.extractLsb' 14 2 = answerOf kind) ∧
      flags = ⟨r.secondHalf.getLsbD 13, r.secondHalf.getLsbD 12, r.secondHalf.getLsbD 11⟩ ∧
        level = (r.secondHalf.extractLsb' 1 10).toNat := by
  rw [← xor_eq_allOnes_iff, ← parityBit_low, decodeReply]
  split
  next valid =>
    rw [Option.some.injEq, Prod.mk.injEq, eq_comm, eq_comm (a := BitVec.toNat _)]
    exact (and_iff_right valid).symm
  next invalid => exact iff_of_false (by simp) fun both => invalid both.1

end Sys2Proof.Machine

open Sys2Proof Sys2Proof.Machine

/-- Settles O45. -/
theorem driveLineFrames : Obligations.DriveLineFrames := by
  refine ⟨fun target command argument => ⟨?_, ?_, ?_, ?_, ?_, even_forwardFrame ..⟩, fun slot address target kind sent => ?_,
    fun line u levels ended => ⟨fun idle => ?_, fun frame driving => ?_⟩, fun kind signal flags level => ?_⟩
  · rw [forwardFrame_eq, BitVec.getLsbD_append, BitVec.getLsbD_append]
    rfl
  · rw [extractLsb'_forwardFrame _ _ _ (by decide), coveredCells, BitVec.extractLsb'_append_eq_of_le (by decide),
      BitVec.extractLsb'_append_eq_of_le (by decide)]
    exact BitVec.extractLsb'_append_eq_left
  · rw [extractLsb'_forwardFrame _ _ _ (by decide), coveredCells, BitVec.extractLsb'_append_eq_of_le (by decide),
      BitVec.extractLsb'_append_eq_of_le (by decide)]
    exact BitVec.extractLsb'_append_eq_right
  · rw [extractLsb'_forwardFrame _ _ _ (by decide), coveredCells, BitVec.extractLsb'_append_eq_of_le (by decide)]
    exact BitVec.extractLsb'_append_eq_right
  · rw [extractLsb'_forwardFrame _ _ _ (by decide)]
    exact BitVec.extractLsb'_append_eq_right
  · rcases sent with ⟨here, sent⟩ | ⟨here, sent⟩
    · rw [here, frameOf, if_neg sent]
      cases kind <;> rfl
    · rw [here, sent]
      rfl
  · rw [readBackEvent, idle]
  · have differs := readBackDiffers_iff frame levels
    simp only [levelDriven_eq] at differs
    have event : readBackEvent line u levels ended =
        if readBackDiffers frame levels = true then some (.contention line)
        else if (ended && decide (48 < levels.length)) = true then some (.forwardFrameEnd line) else none := by
      rw [readBackEvent, driving]
    by_cases contended : readBackDiffers frame levels = true
    · rw [if_pos contended] at event
      rw [event]
      refine ⟨iff_of_true rfl (differs.mp contended), iff_of_false (by simp) ?_, .inr (.inl rfl)⟩
      rintro ⟨-, -, same⟩
      obtain ⟨half, level, read, other⟩ := differs.mp contended
      exact other (same half level read)
    · have same : ∀ half level, levels[half]? = some level → level =
          if 48 ≤ half then true else if half % 2 = 1 then frame.getLsbD (23 - half / 2) else !frame.getLsbD (23 - half / 2) :=
        fun half level read => not_not.mp fun other => contended (differs.mpr ⟨half, level, read, other⟩)
      rw [if_neg contended] at event
      by_cases stopped : (ended && decide (48 < levels.length)) = true
      · rw [if_pos stopped] at event
        rw [event]
        rw [Bool.and_eq_true, decide_eq_true_eq] at stopped
        exact ⟨iff_of_false (by simp) (mt differs.mpr contended), iff_of_true rfl ⟨stopped.1, stopped.2, same⟩, .inr (.inr rfl)⟩
      · rw [if_neg stopped] at event
        rw [event]
        rw [Bool.and_eq_true, decide_eq_true_eq] at stopped
        exact ⟨iff_of_false (by simp) (mt differs.mpr contended), iff_of_false (by simp) fun both => stopped ⟨both.1, both.2.1⟩, .inl rfl⟩
  · refine (decodeReply_eq_some_iff ..).trans ?_
    simp only [and_assoc]
    refine and_congr_right fun _ => and_congr_right fun _ => and_congr_right fun _ => and_congr_right fun _ => ?_
    rw [← and_assoc]
    refine and_congr_left fun _ => ?_
    cases kind with
    | probe => exact iff_of_false (fun both => both.1 both.2) id
    | _ =>
      refine ⟨And.right, fun answers => ⟨?_, answers⟩⟩
      rw [answers]
      decide
end

/-! PROOFS. The layout of a response and of an entry record (O8). -/
section
namespace Sys2Proof.Machine

open Sys2Proof

/-! ### Numbers spelt by bytes (R187) -/

theorem spells1 (n : Nat) : fieldAt (to1 n) 0 1 = n % 256 ^ 1 := by
  change 0 * 256 + (BitVec.ofNat 8 n).toNat = _
  rw [BitVec.toNat_ofNat]
  omega

theorem spells2 (n : Nat) : fieldAt (to2 n) 0 2 = n % 256 ^ 2 := by
  change (0 * 256 + (BitVec.ofNat 8 (n / 256)).toNat) * 256 + (BitVec.ofNat 8 n).toNat = _
  rw [BitVec.toNat_ofNat, BitVec.toNat_ofNat]
  omega

theorem spells3 (n : Nat) : fieldAt (to3 n) 0 3 = n % 256 ^ 3 := by
  change ((0 * 256 + (BitVec.ofNat 8 (n / 65536)).toNat) * 256 + (BitVec.ofNat 8 (n / 256)).toNat) * 256 + (BitVec.ofNat 8 n).toNat = _
  rw [BitVec.toNat_ofNat, BitVec.toNat_ofNat, BitVec.toNat_ofNat]
  omega

theorem fieldAt_byte (b : Byte) : fieldAt [b] 0 1 = b.toNat := by
  change 0 * 256 + b.toNat = _
  omega

theorem be2_mod (n : Nat) : be2 (BitVec.ofNat 8 (n / 256)) (BitVec.ofNat 8 n) = n % 65536 := by
  rw [be2, BitVec.toNat_ofNat, BitVec.toNat_ofNat]
  omega

/-- A field of 16 bits from its two bytes. -/
theorem ofNat_be2 (a b : Byte) : BitVec.ofNat 16 (be2 a b) = a ++ b := by
  refine BitVec.eq_of_toNat_eq ?_
  have high := a.isLt
  have low := b.isLt
  rw [be2, BitVec.toNat_ofNat, BitVec.toNat_append, ← Nat.shiftLeft_add_eq_or_of_lt low, Nat.shiftLeft_eq]
  omega

/-- A group of 16 bits sent as two bytes. -/
theorem append_to2 (g : BitVec 16) : BitVec.ofNat 8 (g.toNat / 256) ++ BitVec.ofNat 8 g.toNat = g := by
  rw [← ofNat_be2, be2_mod, Nat.mod_eq_of_lt g.isLt, BitVec.ofNat_toNat, BitVec.setWidth_eq]

/-- A byte read as a group of 16 bits keeps its bits. -/
theorem extractLsb'_ofNat_byte (b : Byte) {start width : Nat} (inside : start + width ≤ 8) :
    (BitVec.ofNat 16 b.toNat).extractLsb' start width = b.extractLsb' start width := by
  refine BitVec.eq_of_getLsbD_eq fun i small => ?_
  rw [BitVec.getLsbD_extractLsb', BitVec.getLsbD_extractLsb', BitVec.ofNat_toNat, BitVec.getLsbD_setWidth,
    decide_eq_true (show start + i < 16 by omega), Bool.true_and]

theorem getLsbD_ofNat_byte (b : Byte) {i : Nat} (small : i < 8) : (BitVec.ofNat 16 b.toNat).getLsbD i = b.getLsbD i := by
  rw [BitVec.ofNat_toNat, BitVec.getLsbD_setWidth, decide_eq_true (show i < 16 by omega), Bool.true_and]

/-! ### The bytes of an entry record (12.4) -/

/-- An optional code of 10 bits with its presence (12.4, log 28). -/
def optionalGroup : Option Nat → BitVec 16
  | some code => 1#1 ++ 0#5 ++ BitVec.ofNat 10 code
  | none => 0#16

/-- The state byte. -/
def statusByte (e : Entry) : Byte :=
  0#1 ++ BitVec.ofBool e.unreachable ++ BitVec.ofNat 3 (healthCode e.health) ++ BitVec.ofNat 3 (entryStateCode e.state)

/-- The portal, stage and class byte. -/
def placeByte (e : Entry) : Byte := 0#1 ++ BitVec.ofNat 2 e.portal.val ++ BitVec.ofNat 3 e.stage.val ++ BitVec.ofNat 2 e.cls.val

/-- The set level and miss count. -/
def levelGroup (e : Entry) : BitVec 16 := 0#3 ++ BitVec.ofNat 3 e.miss ++ BitVec.ofNat 10 e.setLevel

theorem entryRecordBytes_eq (k : Fin 256) (e : Entry) :
    entryRecordBytes k e =
      to1 k.val ++ [statusByte e, BitVec.ofNat 2 e.line.val ++ BitVec.ofNat 6 e.address.val, placeByte e] ++ to2 e.q ++ to2 e.age
        ++ to2 (optionalGroup e.pin).toNat ++ to2 (levelGroup e).toNat ++ to2 (optionalGroup e.confirmed).toNat := by
  rw [entryRecordBytes, statusByte, placeByte, levelGroup]
  cases e.pin <;> cases e.confirmed <;> rfl

theorem ofNat_val {w : Nat} (i : Fin (2 ^ w)) : BitVec.ofNat w i.val = BitVec.ofFin i :=
  BitVec.eq_of_toNat_eq (by rw [BitVec.toNat_ofNat, Nat.mod_eq_of_lt i.isLt]; rfl)

theorem entryStateCode_lt (state : EntryState) : entryStateCode state < 2 ^ 3 := by cases state <;> decide

theorem healthCode_lt (health : Health) : healthCode health < 2 ^ 3 := by cases health <;> decide

theorem state_of_statusByte (e : Entry) : (statusByte e).extractLsb' 0 3 = BitVec.ofNat 3 (entryStateCode e.state) :=
  BitVec.extractLsb'_append_eq_right

theorem health_of_statusByte (e : Entry) : (statusByte e).extractLsb' 3 3 = BitVec.ofNat 3 (healthCode e.health) :=
  (BitVec.extractLsb'_append_eq_of_le (Nat.le_refl 3)).trans BitVec.extractLsb'_append_eq_right

theorem unreachable_of_statusByte (e : Entry) : (statusByte e).getLsbD 6 = e.unreachable ∧ (statusByte e).getLsbD 7 = false := by
  constructor <;>
    rw [statusByte, BitVec.getLsbD_append, BitVec.getLsbD_append, BitVec.getLsbD_append] <;> simp

theorem optionalGroup_some (code : Nat) :
    (optionalGroup (some code)).getLsbD 15 = true ∧ (optionalGroup (some code)).extractLsb' 10 5 = 0#5 ∧
      (optionalGroup (some code)).extractLsb' 0 10 = BitVec.ofNat 10 code :=
  ⟨(pin_packed true _).1, (BitVec.extractLsb'_append_eq_of_le (Nat.le_refl 10)).trans BitVec.extractLsb'_append_eq_right,
    BitVec.extractLsb'_append_eq_right⟩

/-- Where an optional code stands in its group, and that an absent one's bits are 0 (R185, log 28). -/
def GroupHolds (g : BitVec 16) (code : Option Nat) : Prop :=
  match code with
  | none => g = 0#16
  | some n => g.getLsbD 15 = true ∧ g.extractLsb' 10 5 = 0#5 ∧ g.extractLsb' 0 10 = BitVec.ofNat 10 n

theorem optionalGroup_holds (code : Option Nat) : GroupHolds (optionalGroup code) code := by
  cases code with
  | none => rfl
  | some n => exact optionalGroup_some n

/-- The record that WRITE_NEXT reads of an entry's bytes. -/
theorem decodeRecord_entry (e : Entry) :
    let r := decodeRecord (statusByte e) (BitVec.ofNat 2 e.line.val ++ BitVec.ofNat 6 e.address.val) (placeByte e)
      (BitVec.ofNat 8 (e.q / 256)) (BitVec.ofNat 8 e.q) (BitVec.ofNat 8 (e.age / 256)) (BitVec.ofNat 8 e.age)
      (BitVec.ofNat 8 ((optionalGroup e.pin).toNat / 256)) (BitVec.ofNat 8 (optionalGroup e.pin).toNat)
    r.state.val = entryStateCode e.state ∧ r.line = e.line ∧ r.address = e.address ∧ r.portal = e.portal ∧ r.stage = e.stage ∧
      r.cls = e.cls ∧ r.q = e.q % 65536 ∧ r.age = e.age % 65536 ∧ r.pin.map (·.val) = e.pin.map (· % 1024) := by
  intro r
  obtain ⟨line, address⟩ := channel_packed e.line e.address
  obtain ⟨portal, stage, cls⟩ := place_packed e.portal e.stage e.cls
  refine ⟨?_, ?_, ?_, ?_, ?_, ?_, be2_mod _, be2_mod _, ?_⟩
  · change ((statusByte e).extractLsb' 0 3).toNat = _
    rw [state_of_statusByte, BitVec.toNat_ofNat, Nat.mod_eq_of_lt (entryStateCode_lt _)]
  · rw [← line, ← ofNat_val (w := 2), ← ofNat_val (w := 6)]
    rfl
  · rw [← address, ← ofNat_val (w := 2), ← ofNat_val (w := 6)]
    rfl
  · rw [← portal, ← ofNat_val (w := 2) e.portal, ← ofNat_val (w := 3), ← ofNat_val (w := 2)]
    rfl
  · rw [← stage, ← ofNat_val (w := 2) e.portal, ← ofNat_val (w := 3), ← ofNat_val (w := 2)]
    rfl
  · rw [← cls, ← ofNat_val (w := 2) e.portal, ← ofNat_val (w := 3), ← ofNat_val (w := 2)]
    rfl
  · change Option.map _ (if (BitVec.ofNat 8 ((optionalGroup e.pin).toNat / 256) ++ BitVec.ofNat 8 (optionalGroup e.pin).toNat).getLsbD 15 = true
      then some (BitVec.extractLsb' 0 10 (BitVec.ofNat 8 ((optionalGroup e.pin).toNat / 256) ++ BitVec.ofNat 8 (optionalGroup e.pin).toNat)).toFin
      else none) = _
    rw [append_to2]
    cases e.pin with
    | none => rfl
    | some code =>
      obtain ⟨present, -, value⟩ := optionalGroup_some code
      rw [if_pos present, value]
      rfl

end Sys2Proof.Machine

open Sys2Proof Sys2Proof.Machine

/-- Settles O8. -/
theorem responseAndRecordLayout : Obligations.ResponseAndRecordLayout := by
  refine ⟨fun status => by cases status <;> rfl, fun station status data => ?_, fun k e => ?_, fun k e => ?_, fun k => rfl⟩
  · refine ⟨BitVec.ofNat 8 (data.length + 2), -(byteSum (BitVec.ofNat 8 (data.length + 2) :: statusCode status :: data)),
      BitVec.toNat_ofNat .., ?_, BitVec.toNat_ofNat (data.length + 2) 8, byteSum_append_check _⟩
    cases status <;> rfl
  · rw [entryRecordBytes_eq]
    exact ⟨rfl, rfl, _, rfl, decodeRecord_entry e⟩
  · have state : BitVec.ofNat 16 (fieldAt (entryRecordBytes k e) 1 1) = BitVec.ofNat 16 (statusByte e).toNat := by
      rw [entryRecordBytes_eq, ← fieldAt_byte]
      rfl
    have place : BitVec.ofNat 16 (fieldAt (entryRecordBytes k e) 3 1) = BitVec.ofNat 16 (placeByte e).toNat := by
      rw [entryRecordBytes_eq, ← fieldAt_byte]
      rfl
    have pair (g : BitVec 16) : BitVec.ofNat 16 (fieldAt (to2 g.toNat) 0 2) = g := by
      rw [spells2, Nat.mod_eq_of_lt (show g.toNat < 256 ^ 2 from g.isLt), BitVec.ofNat_toNat, BitVec.setWidth_eq]
    have pin : BitVec.ofNat 16 (fieldAt (entryRecordBytes k e) 8 2) = optionalGroup e.pin := by
      rw [entryRecordBytes_eq]
      exact pair _
    have level : BitVec.ofNat 16 (fieldAt (entryRecordBytes k e) 10 2) = levelGroup e := by
      rw [entryRecordBytes_eq]
      exact pair _
    have confirmed : BitVec.ofNat 16 (fieldAt (entryRecordBytes k e) 12 2) = optionalGroup e.confirmed := by
      rw [entryRecordBytes_eq]
      exact pair _
    simp only [state, place, pin, level, confirmed]
    obtain ⟨unreachable, clear⟩ := unreachable_of_statusByte e
    refine ⟨?_, ?_, ?_, ?_, ?_, optionalGroup_holds e.pin, BitVec.extractLsb'_append_eq_right, ?_, ?_, optionalGroup_holds e.confirmed⟩
    · rw [extractLsb'_ofNat_byte _ (by decide), state_of_statusByte, BitVec.toNat_ofNat, Nat.mod_eq_of_lt (entryStateCode_lt _)]
      cases e.state <;> rfl
    · rw [extractLsb'_ofNat_byte _ (by decide), health_of_statusByte, BitVec.toNat_ofNat, Nat.mod_eq_of_lt (healthCode_lt _)]
      cases e.health <;> rfl
    · rw [getLsbD_ofNat_byte _ (by decide), unreachable]
    · rw [getLsbD_ofNat_byte _ (by decide), clear]
    · rw [getLsbD_ofNat_byte _ (by decide), placeByte, BitVec.getLsbD_append, BitVec.getLsbD_append, BitVec.getLsbD_append]
      simp
    · exact (BitVec.extractLsb'_append_eq_of_le (Nat.le_refl 10)).trans BitVec.extractLsb'_append_eq_right
    · exact (BitVec.extractLsb'_append_eq_of_le (by decide)).trans BitVec.extractLsb'_append_eq_left
end

/-! PROOFS. The layouts of the other records (O9). -/
section
namespace Sys2Proof.Machine

open Sys2Proof

/-! ### Fields of joined bytes -/

theorem fieldAt_append_left {l : List Byte} (m : List Byte) {start width : Nat} (inside : start + width ≤ l.length) :
    fieldAt (l ++ m) start width = fieldAt l start width := by
  rw [fieldAt, List.drop_append_of_le_length (by omega), List.take_append_of_le_length (by rw [List.length_drop]; omega), fieldAt]

theorem fieldAt_append_right (l m : List Byte) (start width : Nat) : fieldAt (l ++ m) (l.length + start) width = fieldAt m start width := by
  rw [fieldAt, List.drop_length_add_append, fieldAt]

section Rows

variable {α : Type} {row : α → List Byte} {size : Nat}

theorem length_flatten_rows (uniform : ∀ a, (row a).length = size) (rows : List α) :
    ((rows.map row).flatten).length = size * rows.length := by
  induction rows with
  | nil => rfl
  | cons a rows ih =>
    rw [List.map_cons, List.flatten_cons, List.length_append, uniform, ih, List.length_cons, Nat.mul_succ, Nat.add_comm]

/-- A field of the j-th of rows that are all of one size. -/
theorem fieldAt_rows (uniform : ∀ a, (row a).length = size) (tail : List Byte) {start width : Nat} (inside : start + width ≤ size)
    (rows : List α) : ∀ {j : Nat} {a : α}, rows[j]? = some a →
      fieldAt ((rows.map row).flatten ++ tail) (size * j + start) width = fieldAt (row a) start width := by
  induction rows with
  | nil => intro j a here; simp at here
  | cons b rows ih =>
    intro j a here
    rw [List.map_cons, List.flatten_cons, List.append_assoc]
    cases j with
    | zero =>
      cases here
      rw [Nat.mul_zero, Nat.zero_add, fieldAt_append_left _ (by rw [uniform]; exact inside)]
    | succ j =>
      rw [show size * (j + 1) + start = (row b).length + (size * j + start) by rw [uniform]; ring, fieldAt_append_right]
      exact ih here

end Rows

theorem fieldAt_zeros {bytes : List Byte} (zero : ∀ b ∈ bytes, b = 0#8) (start width : Nat) : fieldAt bytes start width = 0 := by
  have clear : ∀ b ∈ (bytes.drop start).take width, b = 0#8 := fun b member => zero b (List.mem_of_mem_drop (List.mem_of_mem_take member))
  rw [fieldAt]
  generalize (bytes.drop start).take width = field at clear
  induction field with
  | nil => rfl
  | cons b field ih =>
    rw [List.foldl_cons, clear b List.mem_cons_self]
    exact ih fun b member => clear b (List.mem_cons_of_mem _ member)

theorem spells_byte (b : Byte) : fieldAt [b] 0 1 = b.toNat % 256 ^ 1 :=
  (fieldAt_byte b).trans (Nat.mod_eq_of_lt b.isLt).symm

theorem spells_bool (b : Bool) : fieldAt (boolByte b) 0 1 = (if b = true then 1 else 0) % 256 ^ 1 := by
  cases b <;> rfl

theorem spells_mask (m : BitVec 4) : fieldAt [0#4 ++ m] 0 1 = m.toNat % 256 ^ 1 := by
  rw [spells_byte, BitVec.toNat_append]
  simp

theorem boolByte_eq (b : Bool) : boolByte b = to1 (if b = true then 1 else 0) := by cases b <;> rfl

/-! ### Masks (R186) -/

theorem getLsbD_byte_of_mask {w : Nat} (m : BitVec w) (i : Nat) :
    (BitVec.ofNat 8 (m.extractLsb' (8 * (i / 8)) 8).toNat).getLsbD (i % 8) = m.getLsbD i := by
  rw [BitVec.ofNat_toNat, BitVec.setWidth_eq, BitVec.getLsbD_extractLsb', decide_eq_true (Nat.mod_lt i (by decide)), Bool.true_and,
    Nat.div_add_mod]

/-- The byte that holds a mask's position. -/
theorem fieldAt_maskBytes6 (m : BitVec 48) (tail : List Byte) (i : Fin 48) :
    fieldAt (maskBytes6 m ++ tail) (i.val / 8) 1 = (m.extractLsb' (8 * (i.val / 8)) 8).toNat := by
  have rows : maskBytes6 m = ((List.range 6).map fun j => [m.extractLsb' (8 * j) 8]).flatten := rfl
  have here : (List.range 6)[i.val / 8]? = some (i.val / 8) := List.getElem?_range (by omega)
  have field := fieldAt_rows (row := fun j => [m.extractLsb' (8 * j) 8]) (size := 1) (fun _ => rfl) tail (start := 0) (width := 1)
    (by decide) _ here
  rw [rows, ← fieldAt_byte, ← field, Nat.one_mul, Nat.add_zero]

theorem fieldAt_maskBytes4 (m : BitVec 32) (i : Fin 32) :
    fieldAt (maskBytes4 m) (i.val / 8) 1 = (m.extractLsb' (8 * (i.val / 8)) 8).toNat := by
  have rows : maskBytes4 m = ((List.range 4).map fun j => [m.extractLsb' (8 * j) 8]).flatten ++ [] := rfl
  have here : (List.range 4)[i.val / 8]? = some (i.val / 8) := List.getElem?_range (by omega)
  have field := fieldAt_rows (row := fun j => [m.extractLsb' (8 * j) 8]) (size := 1) (fun _ => rfl) [] (start := 0) (width := 1)
    (by decide) _ here
  rw [rows, ← fieldAt_byte, ← field, Nat.one_mul, Nat.add_zero]

/-! ### Codes spelt out -/

theorem lineHeld_iff (s : State) (l : Fin 4) : lineHeld s l = true ↔ ∃ k, (entryAt s k).state ≠ .free ∧ (entryAt s k).line = l := by
  rw [lineHeld, Tbl.cells_eq, List.any_map, List.any_eq_true]
  simp only [List.mem_finRange, true_and, Function.comp_apply, Bool.and_eq_true, decide_eq_true_eq]
  rfl

theorem lineStateCode_lineState (s : State) (l : Fin 4) [Decidable (∃ k, (entryAt s k).state ≠ .free ∧ (entryAt s k).line = l)] :
    lineStateCode (lineState s l) =
      if s.settings.enables.get l = false then 0
      else if (s.lines.get l).faulted = true then 3
      else if (∃ k, (entryAt s k).state ≠ .free ∧ (entryAt s k).line = l) ∨ (s.lines.get l).queue ≠ [] then 2
      else 1 := by
  have busy : (lineHeld s l || !(s.lines.get l).queue.isEmpty) = true ↔
      (∃ k, (entryAt s k).state ≠ .free ∧ (entryAt s k).line = l) ∨ (s.lines.get l).queue ≠ [] := by
    rw [Bool.or_eq_true, lineHeld_iff, Bool.not_eq_true', List.isEmpty_eq_false_iff]
  rw [lineState, apply_ite lineStateCode, apply_ite lineStateCode, apply_ite lineStateCode, if_congr busy rfl rfl]
  rfl

/-- A cause's kind and channel (12.4). -/
def causeCodes : Cause → Nat × Nat
  | .none => (0, 0xFF)
  | .invalid ch => (1, ch.val)
  | .implausible ch => (2, ch.val)
  | .stale ch => (3, ch.val)
  | .noChannel => (4, 0xFF)

theorem causeBytes_eq (c : Cause) : causeBytes c = to1 (causeCodes c).1 ++ to1 (causeCodes c).2 := by cases c <;> rfl

/-- A position's last seen and staleness (12.4, log 17). -/
def sightCodes (assigned : Option (Fin 8)) (v : Sight) : Nat × Nat :=
  if assigned = none then (0xFFFF, 0) else ((v.lastSeen.map (·.toNat)).getD 0xFFFF, v.staleness)

theorem sightBytes_eq (assigned : Option (Fin 8)) (v : Sight) :
    sightBytes assigned v = to2 (sightCodes assigned v).1 ++ to1 (sightCodes assigned v).2 := by cases assigned <;> rfl

/-! ### The records (12.3, 12.4) -/

/-- The fields of a record, each by its first byte, its width and its value. -/
def LaidOut (bytes : List Byte) (fields : List (Nat × Nat × Nat)) : Prop :=
  ∀ field ∈ fields, fieldAt bytes field.1 field.2.1 = field.2.2 % 256 ^ field.2.1

theorem laidOut_nil (bytes : List Byte) : LaidOut bytes [] := List.forall_mem_nil _

theorem laidOut_cons {bytes : List Byte} {start width value : Nat} {fields : List (Nat × Nat × Nat)}
    (first : fieldAt bytes start width = value % 256 ^ width) (rest : LaidOut bytes fields) :
    LaidOut bytes ((start, width, value) :: fields) := List.forall_mem_cons.mpr ⟨first, rest⟩

theorem laidOut_one {bytes : List Byte} {start width value : Nat} (first : fieldAt bytes start width = value % 256 ^ width) :
    LaidOut bytes [(start, width, value)] := laidOut_cons first (laidOut_nil bytes)

/-- A channel's number, or 0xFF. -/
def channelCode (c : Option (Fin 8)) : Nat := (c.map (·.val)).getD 0xFF

theorem channelRecordBytes_eq (s : State) (ch : Fin 8) :
    channelRecordBytes s ch =
      to2 (s.settings.channels.get ch).offset ++ to2 (s.settings.channels.get ch).gain ++ to3 (s.settings.channels.get ch).lowLimit
        ++ to3 (s.settings.channels.get ch).highLimit ++ to3 ((s.scanner.readings.get ch).luminance.getD 0xFFFFFF)
        ++ to1 (readingStatusCode (s.scanner.readings.get ch).status) ++ [(s.scanner.readings.get ch).number]
        ++ ((List.finRange 8).map fun i => to1 (channelCode (s.settings.scanList.get i))).flatten
        ++ to2 s.settings.scanInterval ++ boolByte s.scanner.scan.isSome := by
  rw [channelRecordBytes, Tbl.cells_eq, List.map_map]
  rfl

theorem channelRecord_laidOut (s : State) (ch : Fin 8) :
    let cal := s.settings.channels.get ch
    let r := s.scanner.readings.get ch
    LaidOut (channelRecordBytes s ch)
      [(0, 2, cal.offset), (2, 2, cal.gain), (4, 3, cal.lowLimit), (7, 3, cal.highLimit), (10, 3, r.luminance.getD 0xFFFFFF),
        (13, 1, readingStatusCode r.status), (14, 1, r.number.toNat), (23, 2, s.settings.scanInterval),
        (25, 1, if s.scanner.scan.isSome = true then 1 else 0)] := by
  intro cal r
  rw [channelRecordBytes_eq]
  exact laidOut_cons (spells2 _) (laidOut_cons (spells2 _) (laidOut_cons (spells3 _) (laidOut_cons (spells3 _)
    (laidOut_cons (spells3 _) (laidOut_cons (spells1 _) (laidOut_cons (spells_byte _) (laidOut_cons (spells2 _)
    (laidOut_one (spells_bool _)))))))))

theorem channelRecord_scanList (s : State) (ch i : Fin 8) :
    LaidOut (channelRecordBytes s ch) [(15 + i.val, 1, channelCode (s.settings.scanList.get i))] := by
  rw [channelRecordBytes_eq]
  fin_cases i <;> exact laidOut_one (spells1 _)

theorem line_laidOut (s : State) (l : Fin 4) :
    let u := s.lines.get l
    (lineBytes s l).length = 13 ∧
      LaidOut (lineBytes s l)
        [(0, 1, if s.settings.enables.get l = true then 1 else 0), (1, 1, s.settings.missLimit), (2, 1, lineStateCode (lineState s l)),
          (3, 1, u.queue.length), (4, 1, u.contentions), (5, 1, u.run), (6, 2, u.cursor.val)] ∧
      (u.inFlight = none → LaidOut (lineBytes s l) [(8, 1, 0xFF), (9, 2, 0), (11, 1, 0), (12, 1, 0)]) ∧
      ∀ t, u.inFlight = some t → LaidOut (lineBytes s l)
        [(8, 1, transactionKindCode t.kind), (9, 2, (t.target.map (·.1.val)).getD 0xFFFF), (11, 1, (t.target.map (·.2.val)).getD 127),
          (12, 1, phaseCode t.phase)] := by
  intro u
  have settled : LaidOut (lineBytes s l)
      [(0, 1, if s.settings.enables.get l = true then 1 else 0), (1, 1, s.settings.missLimit), (2, 1, lineStateCode (lineState s l)),
        (3, 1, u.queue.length), (4, 1, u.contentions), (5, 1, u.run), (6, 2, u.cursor.val)] := by
    rw [lineBytes]
    exact laidOut_cons (spells_bool _) (laidOut_cons (spells1 _) (laidOut_cons (spells1 _) (laidOut_cons (spells1 _)
      (laidOut_cons (spells1 _) (laidOut_cons (spells1 _) (laidOut_one (spells2 _)))))))
  refine ⟨?_, settled, fun idle => ?_, fun t flying => ?_⟩
  · rw [lineBytes]
    cases (s.lines.get l).inFlight <;> rfl
  · rw [lineBytes, idle]
    exact laidOut_cons (spells1 _) (laidOut_cons (spells2 _) (laidOut_cons (spells1 _) (laidOut_one (spells1 _))))
  · rw [lineBytes, flying]
    rcases t with ⟨kind, _ | target, phase, garbled⟩ <;>
      exact laidOut_cons (spells1 _) (laidOut_cons (spells2 _) (laidOut_cons (spells1 _) (laidOut_one (spells1 _))))

/-! ### Records with rows of one size -/

theorem fieldAt_append_of_length {l : List Byte} {n : Nat} (length : l.length = n) (m : List Byte) (start width : Nat) :
    fieldAt (l ++ m) (n + start) width = fieldAt m start width :=
  length ▸ fieldAt_append_right l m start width

/-- The fields moved to begin at a byte. -/
def movedTo (start : Nat) (fields : List (Nat × Nat × Nat)) : List (Nat × Nat × Nat) := fields.map fun f => (start + f.1, f.2)

theorem laidOut_append_of_length {l m : List Byte} {n : Nat} (length : l.length = n) {fields : List (Nat × Nat × Nat)}
    (part : LaidOut m fields) : LaidOut (l ++ m) (movedTo n fields) :=
  List.forall_mem_map.mpr fun f member => (fieldAt_append_of_length length ..).trans (part f member)

theorem laidOut_row {α : Type} {row : α → List Byte} {size : Nat} (uniform : ∀ a, (row a).length = size) (tail : List Byte)
    {rows : List α} {j : Nat} {a : α} (here : rows[j]? = some a) {fields : List (Nat × Nat × Nat)}
    (inside : fields.all (fun f => Nat.ble (f.1 + f.2.1) size) = true) (part : LaidOut (row a) fields) :
    LaidOut ((rows.map row).flatten ++ tail) (movedTo (size * j) fields) :=
  List.forall_mem_map.mpr fun f member =>
    (fieldAt_rows uniform tail (Nat.le_of_ble_eq_true (List.all_eq_true.mp inside f member)) rows here).trans (part f member)

theorem getElem?_finRange {n : Nat} (i : Fin n) : (List.finRange n)[i.val]? = some i := by
  rw [List.getElem?_eq_getElem (by rw [List.length_finRange]; exact i.isLt), List.getElem_finRange]
  rfl

/-! ### Records as lists of fields -/

/-- A field's bytes by its width. -/
def spell : Nat → Nat → List Byte
  | 1, value => to1 value
  | 2, value => to2 value
  | 3, value => to3 value
  | _, _ => []

/-- Fields spelt one after another, each given by its width and value. -/
def spelled (fields : List (Nat × Nat)) : List Byte := (fields.map fun f => spell f.1 f.2).flatten

/-- Where fields stand that are spelt one after another from a byte on. -/
def layout (start : Nat) : List (Nat × Nat) → List (Nat × Nat × Nat)
  | [] => []
  | (width, value) :: fields => (start, width, value) :: layout (start + width) fields

/-- The widths a field may have. -/
def fitWidths (fields : List (Nat × Nat)) : Bool := fields.all fun f => f.1 == 1 || f.1 == 2 || f.1 == 3

/-- The bytes that fields take. -/
def span (fields : List (Nat × Nat)) : Nat := (fields.map (·.1)).sum

theorem spell_fits {width : Nat} (fit : (width == 1 || width == 2 || width == 3) = true) (value : Nat) :
    (spell width value).length = width ∧ fieldAt (spell width value) 0 width = value % 256 ^ width := by
  rw [Bool.or_eq_true, Bool.or_eq_true, beq_iff_eq, beq_iff_eq, beq_iff_eq] at fit
  rcases fit with (rfl | rfl) | rfl
  · exact ⟨rfl, spells1 value⟩
  · exact ⟨rfl, spells2 value⟩
  · exact ⟨rfl, spells3 value⟩

theorem movedTo_layout (first start : Nat) (fields : List (Nat × Nat)) : movedTo first (layout start fields) = layout (first + start) fields := by
  induction fields generalizing start with
  | nil => rfl
  | cons f fields ih => rw [layout, movedTo, List.map_cons, ← movedTo, ih, layout, Nat.add_assoc]

theorem movedTo_layout_zero (first : Nat) (fields : List (Nat × Nat)) : movedTo first (layout 0 fields) = layout first fields :=
  movedTo_layout first 0 fields

theorem laidOut_spelled (fields : List (Nat × Nat)) (fit : fitWidths fields = true) (tail : List Byte) :
    LaidOut (spelled fields ++ tail) (layout 0 fields) := by
  induction fields with
  | nil => exact laidOut_nil _
  | cons f fields ih =>
    rw [fitWidths, List.all_cons, Bool.and_eq_true] at fit
    obtain ⟨length, value⟩ := spell_fits fit.1 f.2
    have joined : spelled (f :: fields) ++ tail = spell f.1 f.2 ++ (spelled fields ++ tail) := List.append_assoc ..
    rw [joined]
    refine laidOut_cons ?_ ?_
    · rw [fieldAt_append_left _ (by rw [length, Nat.zero_add]), value]
    · have rest := laidOut_append_of_length length (ih fit.2)
      rw [movedTo_layout, Nat.add_zero] at rest
      rwa [Nat.zero_add]

theorem length_spelled (fields : List (Nat × Nat)) (fit : fitWidths fields = true) : (spelled fields).length = span fields := by
  induction fields with
  | nil => rfl
  | cons f fields ih =>
    rw [fitWidths, List.all_cons, Bool.and_eq_true] at fit
    have joined : spelled (f :: fields) = spell f.1 f.2 ++ spelled fields := rfl
    rw [joined, List.length_append, (spell_fits fit.1 f.2).1, ih fit.2, span, span, List.map_cons, List.sum_cons]

/-! ### READ_INPUTS and the status summary -/

theorem input_laidOut (s : State) (i : Fin 6) :
    let r := s.settings.inputs.get i
    let live := s.overrides.inputs.get i
    LaidOut (inputBytes s i)
      [(0, 1, functionCode r.function), (1, 1, r.mask.toNat), (2, 1, senseCode r.sense), (3, 1, polarityCode r.polarity),
        (4, 1, inputLevelCode live.physical), (5, 1, acceptedLevelCode live.accepted), (6, 1, if inputAsserted s i = true then 1 else 0),
        (7, 1, if live.debounce.isSome = true then 1 else 0),
        (8, 1, match live.debounce with | some d => inputLevelCode d.candidate | none => 0)] := by
  intro r live
  rw [inputBytes]
  exact laidOut_cons (spells1 _) (laidOut_cons (spells_mask _) (laidOut_cons (spells1 _) (laidOut_cons (spells1 _)
    (laidOut_cons (spells1 _) (laidOut_cons (spells1 _) (laidOut_cons (spells_bool _) (laidOut_cons (spells_bool _)
    (laidOut_one (spells1 _)))))))))

theorem portalCondition_laidOut (s : State) (p : Fin 4) :
    LaidOut (portalConditionBytes s p)
      [(0, 1, if s.overrides.forceLatch.getLsbD p.val = true then 1 else 0), (1, 1, if s.overrides.limitLatch.getLsbD p.val = true then 1 else 0),
        (2, 1, if frozen s p = true then 1 else 0), (3, 1, if forceActive s p = true then 1 else 0),
        (4, 1, if limitActive s p = true then 1 else 0)] := by
  rw [portalConditionBytes]
  exact laidOut_cons (spells_bool _) (laidOut_cons (spells_bool _) (laidOut_cons (spells_bool _) (laidOut_cons (spells_bool _)
    (laidOut_one (spells_bool _)))))

theorem inputs_laidOut (s : State) (i : Fin 6) {fields : List (Nat × Nat × Nat)}
    (inside : fields.all (fun f => Nat.ble (f.1 + f.2.1) 9) = true) (part : LaidOut (inputBytes s i) fields) :
    LaidOut (inputsBytes s) (movedTo (9 * i.val) fields) :=
  laidOut_row (row := inputBytes s) (size := 9) (fun _ => rfl) _ (getElem?_finRange i) inside part

theorem inputs_conditions_laidOut (s : State) (p : Fin 4) {fields : List (Nat × Nat × Nat)}
    (inside : fields.all (fun f => Nat.ble (f.1 + f.2.1) 5) = true) (part : LaidOut (portalConditionBytes s p) fields) :
    LaidOut (inputsBytes s) (movedTo 54 (movedTo (5 * p.val) fields)) := by
  rw [inputsBytes, ← List.append_nil (List.flatten (List.map (portalConditionBytes s) _))]
  exact laidOut_append_of_length (length_flatten_rows (size := 9) (fun _ => rfl) _)
    (laidOut_row (row := portalConditionBytes s) (size := 5) (fun _ => rfl) _ (getElem?_finRange p) inside part)

/-- The first 14 bytes of the status summary. -/
def statusHead (s : State) : List Byte :=
  maskBytes6 s.events.flags ++ maskBytes6 s.settings.mask ++ boolByte (decide (s.events.output = .released))
    ++ to1 (storeStateCode s.store.state)

/-- A portal's part of the status summary. -/
def statusPortal (s : State) (p : Fin 4) : List Byte :=
  to1 (roleCode (s.settings.portals.get p).role) ++ to1 (controlStateCode (s.portals.get p).control) ++ boolByte (forceActive s p)
    ++ boolByte (limitActive s p) ++ boolByte (frozen s p)

theorem statusBytes_eq (s : State) :
    statusBytes s = statusHead s ++ (((List.finRange 4).map (statusPortal s)).flatten
      ++ (((List.finRange 4).map fun l => to1 (lineStateCode (lineState s l))).flatten ++ [])) := by
  rw [List.append_nil, ← List.append_assoc]
  rfl

theorem status_portal_laidOut (s : State) (p : Fin 4) :
    LaidOut (statusBytes s) (movedTo 14 (movedTo (5 * p.val)
      [(0, 1, roleCode (s.settings.portals.get p).role), (1, 1, controlStateCode (s.portals.get p).control),
        (2, 1, if forceActive s p = true then 1 else 0), (3, 1, if limitActive s p = true then 1 else 0),
        (4, 1, if frozen s p = true then 1 else 0)])) := by
  rw [statusBytes_eq]
  refine laidOut_append_of_length rfl (laidOut_row (row := statusPortal s) (size := 5) (fun _ => rfl) _ (getElem?_finRange p) rfl ?_)
  exact laidOut_cons (spells1 _) (laidOut_cons (spells1 _) (laidOut_cons (spells_bool _) (laidOut_cons (spells_bool _)
    (laidOut_one (spells_bool _)))))

theorem status_line_laidOut (s : State) (l : Fin 4) :
    LaidOut (statusBytes s) [(34 + l.val, 1, lineStateCode (lineState s l))] := by
  rw [statusBytes_eq, ← List.append_assoc]
  have row := laidOut_row (row := fun l => to1 (lineStateCode (lineState s l))) (size := 1) (fun _ => rfl) [] (getElem?_finRange l)
    (fields := [(0, 1, lineStateCode (lineState s l))]) rfl (laidOut_one (spells1 _))
  have placed := laidOut_append_of_length (l := statusHead s ++ ((List.finRange 4).map (statusPortal s)).flatten) (n := 34) rfl row
  rw [Nat.one_mul] at placed
  exact placed

/-! ### READ_TABLES -/

/-- The room for the rows of the maintenance table. -/
def maintenanceRoom (rows : List MaintenanceRow) : List Byte :=
  (rows.map fun r => to2 r.threshold ++ to2 r.factor).flatten
    ++ List.replicate (32 - ((rows.map fun r => to2 r.threshold ++ to2 r.factor).flatten).length) 0#8

theorem length_usedRows (rows : List MaintenanceRow) :
    ((rows.map fun r => to2 r.threshold ++ to2 r.factor).flatten).length = 4 * rows.length :=
  length_flatten_rows (size := 4) (fun _ => rfl) rows

section Maintenance

variable {rows : List MaintenanceRow} (few : rows.length ≤ 8)
include few

theorem length_maintenanceRoom : (maintenanceRoom rows).length = 32 := by
  rw [maintenanceRoom, List.length_append, List.length_replicate, length_usedRows rows]
  omega

theorem maintenanceRoom_field (i : Fin 8) {start width : Nat} (inside : start + width ≤ 4) (tail : List Byte) :
    fieldAt (maintenanceRoom rows ++ tail) (4 * i.val + start) width =
      match rows[i.val]? with
      | some r => fieldAt (to2 r.threshold ++ to2 r.factor) start width
      | none => 0 := by
  cases row : rows[i.val]? with
  | some r =>
    rw [maintenanceRoom, List.append_assoc]
    exact fieldAt_rows (size := 4) (fun _ => rfl) _ inside rows row
  | none =>
    have past := List.getElem?_eq_none_iff.mp row
    rw [fieldAt_append_left _ (by rw [length_maintenanceRoom few]; omega), maintenanceRoom,
      show 4 * i.val + start = 4 * rows.length + (4 * (i.val - rows.length) + start) by omega,
      fieldAt_append_of_length (length_usedRows rows)]
    exact fieldAt_zeros (fun b member => List.eq_of_mem_replicate member) _ _

end Maintenance

/-- READ_TABLES' data: the curve, then the maintenance table, then the compute settings. -/
theorem tablesBytes_eq (curve : Curve) (rows : List MaintenanceRow) (c : Compute) :
    tablesBytes curve rows c =
      ((List.finRange 17).map fun i => to2 (curve.get i)).flatten
        ++ (to1 rows.length ++ (maintenanceRoom rows ++ (to1 (roundingCode c.mode) ++ to2 c.thermal ++ to2 c.ceiling))) := by
  rw [tablesBytes, maintenanceBytes, maintenanceRoom, Tbl.cells_eq, List.map_map]
  simp only [List.append_assoc]
  rfl

theorem tables_curve_laidOut (curve : Curve) (rows : List MaintenanceRow) (c : Compute) (i : Fin 17) :
    LaidOut (tablesBytes curve rows c) [(2 * i.val, 2, curve.get i)] := by
  rw [tablesBytes_eq]
  exact laidOut_row (row := fun i => to2 (curve.get i)) (size := 2) (fun _ => rfl) _ (getElem?_finRange i)
    (fields := [(0, 2, curve.get i)]) rfl (laidOut_one (spells2 _))

theorem tables_settings_laidOut (curve : Curve) {rows : List MaintenanceRow} (few : rows.length ≤ 8) (c : Compute) :
    LaidOut (tablesBytes curve rows c) [(34, 1, rows.length), (67, 1, roundingCode c.mode), (68, 2, c.thermal), (70, 2, c.ceiling)] := by
  have compute : LaidOut (to1 (roundingCode c.mode) ++ to2 c.thermal ++ to2 c.ceiling)
      [(0, 1, roundingCode c.mode), (1, 2, c.thermal), (3, 2, c.ceiling)] :=
    laidOut_cons (spells1 _) (laidOut_cons (spells2 _) (laidOut_one (spells2 _)))
  have placed := laidOut_append_of_length (l := to1 rows.length) (n := 1) rfl
    (laidOut_append_of_length (length_maintenanceRoom few) compute)
  have counted : LaidOut (to1 rows.length ++ (maintenanceRoom rows ++ (to1 (roundingCode c.mode) ++ to2 c.thermal ++ to2 c.ceiling)))
      [(0, 1, rows.length), (33, 1, roundingCode c.mode), (34, 2, c.thermal), (36, 2, c.ceiling)] :=
    laidOut_cons (spells1 _) placed
  rw [tablesBytes_eq]
  exact laidOut_append_of_length (n := 34) rfl counted

theorem tables_row_laidOut (curve : Curve) {rows : List MaintenanceRow} (few : rows.length ≤ 8) (c : Compute) (i : Fin 8) :
    LaidOut (tablesBytes curve rows c)
      [(35 + 4 * i.val, 2, (rows[i.val]?.map (·.threshold)).getD 0), (37 + 4 * i.val, 2, (rows[i.val]?.map (·.factor)).getD 0)] := by
  have placed (start : Nat) : fieldAt (tablesBytes curve rows c) (34 + (1 + start)) 2 =
      fieldAt (maintenanceRoom rows ++ (to1 (roundingCode c.mode) ++ to2 c.thermal ++ to2 c.ceiling)) start 2 := by
    rw [tablesBytes_eq, fieldAt_append_of_length (n := 34) rfl, fieldAt_append_of_length (n := 1) rfl]
  refine laidOut_cons ?_ (laidOut_one ?_)
  · rw [show 35 + 4 * i.val = 34 + (1 + (4 * i.val + 0)) by omega, placed, maintenanceRoom_field few i (by decide)]
    cases rows[i.val]? with
    | none => rfl
    | some r => exact spells2 _
  · rw [show 37 + 4 * i.val = 34 + (1 + (4 * i.val + 2)) by omega, placed, maintenanceRoom_field few i (by decide)]
    cases rows[i.val]? with
    | none => rfl
    | some r => exact spells2 _

theorem length_tablesBytes (curve : Curve) {rows : List MaintenanceRow} (few : rows.length ≤ 8) (c : Compute) :
    (tablesBytes curve rows c).length = 72 := by
  rw [tablesBytes_eq, List.length_append, List.length_append, List.length_append, length_maintenanceRoom few]
  rfl

/-! ### The portal record -/

/-- The stage records in use. -/
def stageRows (c : PortalConfig) (live : PortalLive) : List (StageConfig × Stage) :=
  (c.stages.cells.zip live.stages.cells).take c.stageCount

theorem getElem?_stageRows (c : PortalConfig) (live : PortalLive) {j : Fin 8} (used : j.val < c.stageCount) :
    (stageRows c live)[j.val]? = some (c.stages.get j, live.stages.get j) := by
  rw [stageRows, List.getElem?_take_of_lt used, Tbl.cells_eq, Tbl.cells_eq, List.getElem?_zip_eq_some]
  simp only [List.getElem?_map, getElem?_finRange, Option.map_some, and_self]

theorem length_stageRows (c : PortalConfig) (live : PortalLive) (few : c.stageCount ≤ 8) : (stageRows c live).length = c.stageCount := by
  rw [stageRows, List.length_take, List.length_zip, c.stages.size, live.stages.size]
  omega

/-- A portal record before its stages. -/
def portalHead (c : PortalConfig) (live : PortalLive) : List Byte := portalConfigBytes c ++ portalLiveBytes c live ++ to1 c.stageCount

/-- The configuration, each field by its width and value. -/
def configFields (c : PortalConfig) : List (Nat × Nat) :=
  [(1, roleCode c.role), (1, channelCode c.primary), (1, channelCode c.secondary), (1, c.k), (3, c.lthMin), (3, c.lthCap),
    (3, c.lthFallback), (2, c.w), (2, c.up), (2, c.dn), (1, c.deadBand), (1, c.fallHoldLength), (1, c.staleLimit), (1, c.holdLimit),
    (1, c.recoverCount), (2, c.disagreement), (2, c.uMin), (2, c.updateInterval)]

/-- The live fields and the stage count, each by its width and value. -/
def liveFields (c : PortalConfig) (live : PortalLive) : List (Nat × Nat) :=
  [(1, controlStateCode live.control), (3, live.filtered), (1, if live.seeded = true then 1 else 0), (1, trendCode live.trend),
    (1, live.fallHold), (1, live.holdCount), (1, live.goodCount), (1, (causeCodes live.cause).1), (1, (causeCodes live.cause).2),
    (1, (causeCodes live.priorCause).1), (1, (causeCodes live.priorCause).2), (3, live.manualLth),
    (1, if live.disagreeing = true then 1 else 0), (1, if live.riseJump = true then 1 else 0), (3, live.controlLth),
    (3, live.appliedLth), (2, (sightCodes c.primary live.primarySight).1), (1, (sightCodes c.primary live.primarySight).2),
    (2, (sightCodes c.secondary live.secondarySight).1), (1, (sightCodes c.secondary live.secondarySight).2), (1, c.stageCount)]

/-- A stage's flags as a number (12.4). -/
def flagsCode (f : StageFlags) : Nat :=
  (if f.short = true then 1 else 0) + 2 * (if f.dark = true then 1 else 0) + 4 * (if f.limited = true then 1 else 0) +
    8 * (if f.minHeld = true then 1 else 0) + 16 * (if f.forced = true then 1 else 0)

theorem stageFlagsByte_eq (f : StageFlags) : [stageFlagsByte f] = to1 (flagsCode f) := by
  rcases f with ⟨_ | _, _ | _, _ | _, _ | _, _ | _⟩ <;> rfl

/-- A stage record's fields, each by its width and value. -/
def stageFields (c : StageConfig) (st : Stage) : List (Nat × Nat) :=
  [(2, c.f), (3, c.floor), (3, st.requirement), (3, st.q), (3, st.capacity), (2, st.u), (3, st.shortfall), (1, flagsCode st.flags)]

theorem portalConfigBytes_eq (c : PortalConfig) : portalConfigBytes c = spelled (configFields c) := by
  simp only [portalConfigBytes, List.append_assoc]
  rfl

theorem portalLiveBytes_eq (c : PortalConfig) (live : PortalLive) :
    portalLiveBytes c live ++ to1 c.stageCount = spelled (liveFields c live) := by
  simp only [portalLiveBytes, causeBytes_eq, sightBytes_eq, boolByte_eq, List.append_assoc]
  rfl

theorem stageRecordBytes_eq (c : StageConfig) (st : Stage) : stageRecordBytes c st = spelled (stageFields c st) := by
  simp only [stageRecordBytes, stageFlagsByte_eq, List.append_assoc]
  rfl

theorem portalRecordBytes_eq (c : PortalConfig) (live : PortalLive) :
    portalRecordBytes c live = spelled (configFields c) ++ (spelled (liveFields c live)
      ++ (((stageRows c live).map fun x => spelled (stageFields x.1 x.2)).flatten ++ [])) := by
  rw [List.append_nil, ← portalLiveBytes_eq, ← portalConfigBytes_eq, portalRecordBytes]
  simp only [← stageRecordBytes_eq, List.append_assoc]
  rfl

theorem portal_config_laidOut (c : PortalConfig) (live : PortalLive) : LaidOut (portalRecordBytes c live) (layout 0 (configFields c)) := by
  rw [portalRecordBytes_eq]
  exact laidOut_spelled _ rfl _

theorem length_configFields (c : PortalConfig) : (spelled (configFields c)).length = 30 :=
  (length_spelled _ rfl).trans (by simp [span, configFields])

theorem length_liveFields (c : PortalConfig) (live : PortalLive) : (spelled (liveFields c live)).length = 31 :=
  (length_spelled _ rfl).trans (by simp [span, liveFields])

theorem length_stageFields (c : StageConfig) (st : Stage) : (spelled (stageFields c st)).length = 20 :=
  (length_spelled _ rfl).trans (by simp [span, stageFields])

theorem portal_live_laidOut (c : PortalConfig) (live : PortalLive) : LaidOut (portalRecordBytes c live) (layout 30 (liveFields c live)) := by
  rw [portalRecordBytes_eq, ← movedTo_layout_zero]
  exact laidOut_append_of_length (length_configFields c) (laidOut_spelled _ rfl _)

theorem portal_stage_laidOut (c : PortalConfig) (live : PortalLive) {j : Fin 8} (used : j.val < c.stageCount) :
    LaidOut (portalRecordBytes c live) (layout (61 + 20 * j.val) (stageFields (c.stages.get j) (live.stages.get j))) := by
  have head : (spelled (configFields c) ++ spelled (liveFields c live)).length = 61 := by
    rw [List.length_append, length_configFields, length_liveFields]
  have fields := laidOut_spelled (stageFields (c.stages.get j) (live.stages.get j)) rfl []
  rw [List.append_nil] at fields
  have row := laidOut_row (row := fun x => spelled (stageFields x.1 x.2)) (size := 20) (fun _ => length_stageFields ..) []
    (getElem?_stageRows c live used) rfl fields
  have placed := laidOut_append_of_length head row
  rw [movedTo_layout, movedTo_layout, Nat.add_zero] at placed
  rw [portalRecordBytes_eq, ← List.append_assoc]
  exact placed

theorem length_portalRecordBytes (c : PortalConfig) (live : PortalLive) (few : c.stageCount ≤ 8) :
    (portalRecordBytes c live).length = 61 + 20 * c.stageCount := by
  rw [portalRecordBytes_eq, List.append_nil, List.length_append, List.length_append, length_configFields, length_liveFields,
    length_flatten_rows (size := 20) (fun _ => length_stageFields ..), length_stageRows c live few]
  omega

end Sys2Proof.Machine

open Sys2Proof Sys2Proof.Machine

/-- Settles O9: each record's fields as laid out above, its codes spelt out. -/
theorem recordLayouts : Obligations.RecordLayouts := by
  intro s laidOut channelOr yes stateOf level masks
  have lineStates (l : Fin 4) : lineStateCode (lineState s l) = stateOf l := lineStateCode_lineState s l
  refine ⟨fun marks i => ?_, fun ch => ⟨?_, channelRecord_laidOut s ch, fun i => channelRecord_scanList s ch i⟩,
    fun curve rows c few => ⟨length_tablesBytes curve few c, tables_curve_laidOut curve rows c, tables_settings_laidOut curve few c,
      tables_row_laidOut curve few c⟩,
    fun l => ?_, ⟨rfl, fun i => ?_, fun p => ?_⟩, rfl, ?_, ?_, ?_, fun p => ?_, fun l => ?_, fun c live few => ⟨?_, ?_, ?_, fun j used => ?_⟩⟩
  · rw [fieldAt_maskBytes4, getLsbD_byte_of_mask]
  · rw [channelRecordBytes_eq]
    rfl
  · obtain ⟨length, settled, idle, flying⟩ := line_laidOut s l
    rw [lineStates] at settled
    refine ⟨length, settled, idle, fun t inFlight => ?_⟩
    have fields := flying t inFlight
    rcases t with ⟨kind, _ | target, phase, garbled⟩ <;> exact fields
  · exact inputs_laidOut s i rfl (input_laidOut s i)
  · exact inputs_conditions_laidOut s p rfl (portalCondition_laidOut s p)
  · intro i
    rw [Nat.zero_add, statusBytes_eq, statusHead, List.append_assoc, List.append_assoc, List.append_assoc, fieldAt_maskBytes6,
      getLsbD_byte_of_mask]
  · intro i
    rw [statusBytes_eq, statusHead, List.append_assoc, List.append_assoc, List.append_assoc, fieldAt_append_of_length (n := 6) rfl,
      fieldAt_maskBytes6, getLsbD_byte_of_mask]
  · refine laidOut_cons ((spells_bool (decide (s.events.output = .released))).trans ?_) (laidOut_one (spells1 _))
    cases s.events.output <;> rfl
  · exact status_portal_laidOut s p
  · rw [← lineStates]
    exact status_line_laidOut s l
  · exact length_portalRecordBytes c live few
  · exact portal_config_laidOut c live
  · exact portal_live_laidOut c live
  · exact portal_stage_laidOut c live used
end
